-- ==== Sys2Proof/Word.lean ====
section
/-! DEFINITION. The words of the core (00_scope.md R9): bytes and 16-bit addresses, and their plainest arithmetic. -/

namespace Sys2Proof

/-- A byte register, a memory byte, an opcode or an operand byte (R9: "8-bit unsigned"). -/
abbrev Byte := BitVec 8

/-- A 16-bit value: the program counter, a register pair, a memory address (R9). -/
abbrev Word := BitVec 16

/-- `trunc8(v)` of R13: a natural number brought to eight bits. -/
abbrev trunc8 (v : Nat) : Byte := BitVec.ofNat 8 v

/-- `trunc16(v)` of R13: a natural number brought to sixteen bits. -/
abbrev trunc16 (v : Nat) : Word := BitVec.ofNat 16 v

end Sys2Proof
end

