-- ==== Sys2Proof/Machine/Bytes.lean ====
section
/-! DEFINITION. Joining and splitting bytes (20_memory.md R47, 10_state.md R26). -/

namespace Sys2Proof.Machine

/-- `JoinBytes(hi, lo) = hi ++ lo` (R47). -/
def joinBytes (hi lo : Byte) : Word := hi ++ lo

/-- `v[15:8]` (R26). -/
def hiByte (v : Word) : Byte := v.extractLsb' 8 8

/-- `v[7:0]` (R26). -/
def loByte (v : Word) : Byte := v.extractLsb' 0 8

end Sys2Proof.Machine
end

