-- ==== Sys2Proof/Config.lean ====
section
/-! DEFINITION. What is fixed for this hardware (00_scope.md R10, R11): the two named parameters. The spec leaves no result open, so there is no free value. -/

namespace Sys2Proof

/-- `MEM_SIZE` of this hardware (R10): the number of bytes of storage behind the memory port. The State holds the size of
the storage it is bound to; `State.reset` takes this one (log entry 4). -/
def Config.memSize : Nat := 65536

/-- `JR_BIAS` of this hardware (R10, 46_branch.md R158): the fixed correction of a relative jump. -/
def Config.jrBias : Int := -2

/-- The longest instruction, in bytes (30_encoding.md R60). -/
def Config.maxLength : Nat := 3

end Sys2Proof
end

