-- ==== Sys2Proof/Machine/Operation.lean ====
section
/-! DEFINITION. The operand tables of 30_encoding.md R63 to R67 as types, and the closed set of operation kinds of 40_sequencer.md R83 with their bound operands. -/

namespace Sys2Proof.Machine

/-- The 8-bit operand slots of R63, in slot order; `mhl` is slot 6, the byte at address HL. -/
inductive Slot where
  | b | c | d | e | h | l | mhl | a
  deriving DecidableEq, Repr

/-- The register pairs of 10_state.md R24, in pair-index order. -/
inductive Pair where
  | bc | de | hl | sp
  deriving DecidableEq, Repr

/-- `post_op` of `Dereference` (20_memory.md R48). -/
inductive PostOp where
  | keep     -- the spec's None
  | postInc
  | postDec
  | preDec
  deriving DecidableEq, Repr

/-- The ALU kinds of R66, in the order of `y`. -/
inductive AluKind where
  | add | adc | sub | sbc | and | xor | or | cp
  deriving DecidableEq, Repr

/-- The conditions of R67, in the order of `cc`. -/
inductive Cond where
  | nz | z | nc | c
  deriving DecidableEq, Repr

/-- The direction of a rotate (42_rotate.md R133 to R135). -/
inductive Dir where
  | left | right
  deriving DecidableEq, Repr

/-- The four named bits of the flag byte (10_state.md R28). -/
inductive Flag where
  | z | n | h | c
  deriving DecidableEq, Repr

/-- A place a load reads or writes: an 8-bit slot, or the byte a register pair points at, with the modification of the
pair (R63, R65). Bound by slot and pair, never by address (40_sequencer.md R87). -/
inductive Loc where
  | slot (s : Slot)
  | ind (p : Pair) (post : PostOp)
  deriving DecidableEq, Repr

/-- A source operand: a place, or the immediate byte `d8` (R68). -/
inductive Src where
  | loc (p : Loc)
  | imm (d8 : Byte)
  deriving DecidableEq, Repr

/-- The operation kinds of R83. No opcode binds `rotateNormal`, `push` or `pop` (R135, R155). -/
inductive Op where
  | increase (s : Slot)
  | decrease (s : Slot)
  | rotateFast (dir : Dir)
  | rotateNormal (s : Slot) (dir : Dir)
  | load (dst : Loc) (src : Src)
  | alu (kind : AluKind) (src : Src)
  | inc16 (p : Pair)
  | dec16 (p : Pair)
  | load16 (p : Pair) (d16 : Word)
  | push (p : Pair)
  | pop (p : Pair)
  | jr (e8 : Byte)
  | jrcc (cc : Cond) (e8 : Byte)
  deriving DecidableEq, Repr

end Sys2Proof.Machine
end

