-- ==== Sys2Proof/Machine/State.lean ====
section
/-! DEFINITION. The state of the core and of the storage it is bound to (10_state.md), as plain data, and its value after construction (R39). -/

namespace Sys2Proof.Machine

/-- The external storage: the bytes that differ from what an unlisted address reads as, by rising address (20_memory.md R40; log entry 3). -/
abbrev Memory := List Host.Cell

/-- The debug view of the last decode (10_state.md R37): opcode byte, operand count, immediate bytes. -/
structure DebugView where
  opcode : Byte
  count : Nat
  bytes : List Byte
  deriving DecidableEq, Repr

/-- The in-flight instruction (10_state.md R35). -/
structure InFlight where
  op : Op              -- operation kind with bound operands
  imm : List Byte      -- the decoded immediates
  extraLeft : Nat      -- extra steps not yet consumed
  k : Nat              -- index of the operation's next own step
  taken : Bool         -- conditional-jump latch
  wrapped : Bool       -- 16-bit increment and decrement latch
  done : Bool          -- the operation has reported completion
  deriving DecidableEq, Repr

/-- What the fault register holds beside None (10_state.md R36, 60_exceptions.md R164). -/
inductive FaultCause where
  | unimplemented (o : Byte)
  | outOfRange (a : Word)
  deriving DecidableEq, Repr

/-- Why a command is declined (60_exceptions.md R170). -/
inductive Declined where
  | busy
  | faulted
  deriving DecidableEq, Repr

/-- The result of a command (60_exceptions.md R163). `decoded` carries the debug view as it stands. -/
inductive Result where
  | completed (steps : Nat)
  | decoded (view : Option DebugView)
  | stepped (done : Bool)
  | fault (cause : FaultCause)
  | refused (why : Declined)
  | ok
  deriving DecidableEq, Repr

/-- The argument of CYCLE (40_sequencer.md R80). -/
inductive CycleMode where
  | run
  | hand
  deriving DecidableEq, Repr

/-- A move of the host: a command of R80, or a write of one byte by the memory owner (20_memory.md R55). -/
inductive HostMove where
  | reset
  | cycle (m : CycleMode)
  | step
  | ownerWrite (a : Word) (v : Byte)
  deriving DecidableEq, Repr

/-- What stops the model. No instruction and no command raises either: the core's own faults (60_exceptions.md R164) are a
value of the fault register, in a next state. Both are safe: the model stops where the spec gives no result (log entry 6). -/
inductive Fault where
  /-- Raised by the step when the owner's write is the host's next move and an instruction is in flight and incomplete:
  the host broke 20_memory.md R55 (93_implementation_defined.md U9, treatment 'stuck'). Safe. -/
  | ownerMidInstruction
  /-- Raised by the step when the owner's write names an address outside the storage (20_memory.md R40: the storage holds
  the bytes `0 .. MEM_SIZE-1`). Safe. -/
  | ownerOutsideStorage
  deriving DecidableEq, Repr

/-- What the model declines. -/
inductive Refusal where
  /-- An instruction without a meaning, refused in its arm of `exec`. No arm raises it: every instruction has its meaning. Safe. -/
  | notModelled (mnemonic : String)
  deriving DecidableEq, Repr

/-- The core, the storage behind its memory port, and the host's side of the command port. -/
structure State where
  -- byte registers (10_state.md R20, R21), flag byte (R28)
  a : Byte
  f : Byte
  b : Byte
  c : Byte
  d : Byte
  e : Byte
  h : Byte
  l : Byte
  sph : Byte
  spl : Byte
  pc : Word                        -- R33
  inflight : Option InFlight       -- R35
  fault : Option FaultCause        -- R36
  view : Option DebugView          -- R37
  result : Option Result           -- the last command's result (60_exceptions.md R163; log entry 2)
  mem : Memory                     -- 20_memory.md R40
  memSize : Nat                    -- MEM_SIZE of the bound storage (00_scope.md R10; log entry 4)
  mode : CycleMode                 -- the model's own: argument of the CYCLE now executed (log entry 5)
  host : List HostMove             -- the model's own: the host's next moves, oldest first (log entry 1)
  deriving DecidableEq, Repr

/-- The three outcomes of a step, on this state. -/
abbrev Outcome := Host.Outcome State Fault Refusal

/-- The machine after construction (10_state.md R39, 70_reset_and_hazards.md R182): registers, flags and PC zero, nothing in
flight, no fault, empty view, the result `Ok`; bound to a storage of this hardware's size that lists no byte. -/
def State.reset : State where
  a := 0
  f := 0
  b := 0
  c := 0
  d := 0
  e := 0
  h := 0
  l := 0
  sph := 0
  spl := 0
  pc := 0
  inflight := none
  fault := none
  view := none
  result := some .ok
  mem := []
  memSize := Config.memSize
  mode := .run
  host := []

end Sys2Proof.Machine
end

