-- ==== Sys2Proof/Machine/Ops.lean ====
section
/-! DEFINITION. The named operations: storage, memory port, register pairs, `Dereference`, raising a fault, construction, the debug port. -/

namespace Sys2Proof.Machine

/-! ### Storage -/

/-- What an address that the storage does not list reads as (log entry 3). -/
def unlistedByte : Byte := 0x00

/-- The byte of the storage at an address. -/
def Memory.read : Memory → Nat → Byte
  | [], _ => unlistedByte
  | (k, v) :: m, a => if k = a then v else Memory.read m a

/-- A listed byte in front of a storage; a byte equal to the unlisted one is not listed. -/
def Memory.consByte (a : Nat) (v : Byte) (m : Memory) : Memory :=
  if v = unlistedByte then m else (a, v) :: m

/-- The storage with one byte written, in the canonical form. -/
def Memory.write : Memory → Nat → Byte → Memory
  | [], a, v => Memory.consByte a v []
  | (k, w) :: m, a, v =>
    if a < k then Memory.consByte a v ((k, w) :: m)
    else if a = k then Memory.consByte a v m
    else (k, w) :: Memory.write m a v

/-- The canonical form: addresses strictly rising from at least `lo` and below 65536, no listed byte equal to the unlisted one. -/
def Memory.wfFrom : Nat → Memory → Bool
  | _, [] => true
  | lo, (k, v) :: m =>
    decide (lo ≤ k) && decide (k < 65536) && decide (v ≠ unlistedByte) && Memory.wfFrom (k + 1) m

/-- The canonical form of a storage. -/
def Memory.wf (m : Memory) : Bool := Memory.wfFrom 0 m

/-! ### Memory port (20_memory.md R41) -/

/-- `MemRead(addr, 1)`. -/
def memRead (s : State) (a : Word) : Except FaultCause Byte :=
  if a.toNat < s.memSize then .ok (s.mem.read a.toNat) else .error (.outOfRange a)

/-- `MemWrite(addr, 1, v)`. -/
def memWrite (s : State) (a : Word) (v : Byte) : Except FaultCause State :=
  if a.toNat < s.memSize then .ok { s with mem := s.mem.write a.toNat v } else .error (.outOfRange a)

/-! ### Register pairs (10_state.md R24 to R27) -/

/-- `REG[2n]`, the high byte of pair `n` (R21, R24). -/
def pairHigh : Pair → State → Byte
  | .bc, s => s.b
  | .de, s => s.d
  | .hl, s => s.h
  | .sp, s => s.sph

/-- `REG[2n+1]`, the low byte of pair `n` (R21, R24). -/
def pairLow : Pair → State → Byte
  | .bc, s => s.c
  | .de, s => s.e
  | .hl, s => s.l
  | .sp, s => s.spl

/-- `REG[2n] <- v`. -/
def setPairHigh : Pair → Byte → State → State
  | .bc, v, s => { s with b := v }
  | .de, v, s => { s with d := v }
  | .hl, v, s => { s with h := v }
  | .sp, v, s => { s with sph := v }

/-- `REG[2n+1] <- v`. -/
def setPairLow : Pair → Byte → State → State
  | .bc, v, s => { s with c := v }
  | .de, v, s => { s with e := v }
  | .hl, v, s => { s with l := v }
  | .sp, v, s => { s with spl := v }

/-- `pair(n)`: the join of its two bytes as they are now (R24, R25). -/
def readPair (p : Pair) (s : State) : Word := joinBytes (pairHigh p s) (pairLow p s)

/-- `pair(n) <- v`: both bytes (R26). -/
def writePair (p : Pair) (v : Word) (s : State) : State :=
  setPairLow p (loByte v) (setPairHigh p (hiByte v) s)

/-- `Dereference(n, post_op)` (20_memory.md R48): the address, and the state with the pair modified. No flag is written. -/
def dereference (p : Pair) (post : PostOp) (s : State) : Word × State :=
  match post with
  | .keep => (readPair p s, s)
  | .postInc => (readPair p s, writePair p (readPair p s + 1) s)
  | .postDec => (readPair p s, writePair p (readPair p s - 1) s)
  | .preDec => (readPair p s - 1, writePair p (readPair p s - 1) s)

/-! ### Faults (60_exceptions.md R165, R166, R172) -/

/-- Taking a fault, the same for both causes: the fault register records it, the in-flight instruction is discarded (40_sequencer.md
R92), the command returns it. Nothing is saved, PC and every register, flag and byte stay as they are (R172). There is no
return from a fault but construction (R173). -/
def raiseFault (cause : FaultCause) (s : State) : State :=
  { s with fault := some cause, inflight := none, result := some (.fault cause) }

/-! ### Construction (70_reset_and_hazards.md R182) -/

/-- `RESET`: every piece of core state at its construction value; the storage, its size and the host's further moves stay. -/
def construct (s : State) : State :=
  { State.reset with mem := s.mem, memSize := s.memSize, host := s.host }

/-! ### What the host sees -/

/-- An in-flight instruction has not reported completion (60_exceptions.md R170): not an instruction boundary (00_scope.md R19). -/
def State.busy (s : State) : Bool :=
  match s.inflight with
  | none => false
  | some f => !f.done

/-- What the debug port shows (60_exceptions.md R181). -/
structure DebugPort where
  a : Byte
  f : Byte
  b : Byte
  c : Byte
  d : Byte
  e : Byte
  h : Byte
  l : Byte
  sp : Word
  pc : Word
  view : Option DebugView
  deriving DecidableEq, Repr

/-- The read-only debug port (60_exceptions.md R181, 40_sequencer.md R90). -/
def debugPort (s : State) : DebugPort where
  a := s.a
  f := s.f
  b := s.b
  c := s.c
  d := s.d
  e := s.e
  h := s.h
  l := s.l
  sp := readPair .sp s
  pc := s.pc
  view := s.view

/-- The cause codes of 60_exceptions.md R164. -/
def faultCode : FaultCause → Nat
  | .unimplemented _ => 1
  | .outOfRange _ => 2

/-- The result codes of 60_exceptions.md R163. -/
def resultCode : Result → Nat
  | .completed _ => 0
  | .decoded _ => 1
  | .stepped false => 2
  | .stepped true => 3
  | .fault (.unimplemented _) => 4
  | .fault (.outOfRange _) => 5
  | .refused .busy => 6
  | .refused .faulted => 7
  | .ok => 8

end Sys2Proof.Machine
end

