-- ==== Sys2Proof/Machine/Flags.lean ====
section
/-! DEFINITION. The flag byte (10_state.md R28, R29) and the flag update engine (41_alu8.md R95 to R102; 42_rotate.md R132). Results are computed exactly and then brought to eight bits (R94). -/

namespace Sys2Proof.Machine

/-- The bit of the flag byte a flag stands in (R28). -/
def flagBit : Flag → Nat
  | .z => 7
  | .n => 6
  | .h => 5
  | .c => 4

/-- `GetFlag` (R29). -/
def getFlag (fl : Flag) (s : State) : Bool := s.f.getLsbD (flagBit fl)

/-- The byte with one named bit set or cleared. -/
def putBit (v : Byte) (k : Nat) (on : Bool) : Byte :=
  if on then v ||| BitVec.twoPow 8 k else v &&& ~~~ BitVec.twoPow 8 k

/-- `SetFlag`: exactly one bit, the others untouched (R29). -/
def setFlag (fl : Flag) (on : Bool) (s : State) : State := { s with f := putBit s.f (flagBit fl) on }

/-- A value for each of Z, N, H and C. -/
structure FlagsZNHC where
  z : Bool
  n : Bool
  h : Bool
  c : Bool
  deriving DecidableEq, Repr

/-- A value for each of Z, N and H. -/
structure FlagsZNH where
  z : Bool
  n : Bool
  h : Bool
  deriving DecidableEq, Repr

/-- Writing Z, N, H and C. -/
def setZNHC (fl : FlagsZNHC) (s : State) : State :=
  setFlag .c fl.c (setFlag .h fl.h (setFlag .n fl.n (setFlag .z fl.z s)))

/-- Writing Z, N and H; C keeps its value. -/
def setZNH (fl : FlagsZNH) (s : State) : State :=
  setFlag .h fl.h (setFlag .n fl.n (setFlag .z fl.z s))

/-- The lower nibble of a byte as a number. -/
def nibble (v : Byte) : Nat := (v &&& 0x0F).toNat

/-- A carry as the integer 0 or 1 (R94). -/
def carryNat (c : Bool) : Nat := if c then 1 else 0

/-- `Add8` (R95). -/
def add8 (a b : Byte) (c : Bool) : Byte × FlagsZNHC :=
  let wide := a.toNat + b.toNat + carryNat c
  let res := trunc8 wide
  (res, { z := res == 0, n := false
          h := decide (nibble a + nibble b + carryNat c > 0x0F), c := decide (wide > 0xFF) })

/-- `Sub8` (R97). -/
def sub8 (a b : Byte) (c : Bool) : Byte × FlagsZNHC :=
  let wide : Int := (a.toNat : Int) - b.toNat - carryNat c
  let res : Byte := BitVec.ofInt 8 wide
  (res, { z := res == 0, n := true
          h := decide ((nibble a : Int) - nibble b - carryNat c < 0), c := decide (wide < 0) })

/-- `And8` (R99). -/
def and8 (a b : Byte) : Byte × FlagsZNHC :=
  (a &&& b, { z := (a &&& b) == 0, n := false, h := true, c := false })

/-- `Or8` (R100). -/
def or8 (a b : Byte) : Byte × FlagsZNHC :=
  (a ||| b, { z := (a ||| b) == 0, n := false, h := false, c := false })

/-- `Xor8` (R100). -/
def xor8 (a b : Byte) : Byte × FlagsZNHC :=
  (a ^^^ b, { z := (a ^^^ b) == 0, n := false, h := false, c := false })

/-- `Inc8` (R101). -/
def inc8 (v : Byte) : Byte × FlagsZNH :=
  let res := trunc8 (v.toNat + 1)
  (res, { z := res == 0, n := false, h := nibble v == 0x0F })

/-- `Dec8` (R102; 90_conflicts.md C1, C2). -/
def dec8 (v : Byte) : Byte × FlagsZNH :=
  let res : Byte := BitVec.ofInt 8 ((v.toNat : Int) - 1)
  (res, { z := res == 0, n := true, h := nibble v == 0x00 })

/-- The eight ALU kinds (R103 to R126): result and flags from A, the right operand and the carry flag. -/
def aluResult (kind : AluKind) (a v : Byte) (carry : Bool) : Byte × FlagsZNHC :=
  match kind with
  | .add => add8 a v false
  | .adc => add8 a v carry
  | .sub => sub8 a v false
  | .sbc => sub8 a v carry
  | .and => and8 a v
  | .xor => xor8 a v
  | .or => or8 a v
  | .cp => sub8 a v false

/-- A byte rotated by one, and the bit that rotated out (42_rotate.md R133, R134). -/
def rotate8 (dir : Dir) (v : Byte) : Byte × Bool :=
  match dir with
  | .left => (trunc8 (v.toNat * 2 + carryNat (v.getLsbD 7)), v.getLsbD 7)
  | .right => (trunc8 (v.toNat / 2 + carryNat (v.getLsbD 0) * 128), v.getLsbD 0)

/-- The condition of a conditional jump on the flags as they are (46_branch.md R159). -/
def condHolds (cc : Cond) (s : State) : Bool :=
  match cc with
  | .nz => !getFlag .z s
  | .z => getFlag .z s
  | .nc => !getFlag .c s
  | .c => getFlag .c s

end Sys2Proof.Machine
end

