-- ==== Sys2Proof/Machine/Operands.lean ====
section
/-! DEFINITION. The operand forms (30_encoding.md R63, R65, R68; 20_memory.md R49), resolved when the step that uses them runs (40_sequencer.md R87). -/

namespace Sys2Proof.Machine

/-- Reading an 8-bit slot (R63). -/
def readSlot : Slot → State → Except FaultCause Byte
  | .b, s => .ok s.b
  | .c, s => .ok s.c
  | .d, s => .ok s.d
  | .e, s => .ok s.e
  | .h, s => .ok s.h
  | .l, s => .ok s.l
  | .mhl, s => memRead s (dereference .hl .keep s).1
  | .a, s => .ok s.a

/-- Writing an 8-bit slot (R63). -/
def writeSlot : Slot → Byte → State → Except FaultCause State
  | .b, v, s => .ok { s with b := v }
  | .c, v, s => .ok { s with c := v }
  | .d, v, s => .ok { s with d := v }
  | .e, v, s => .ok { s with e := v }
  | .h, v, s => .ok { s with h := v }
  | .l, v, s => .ok { s with l := v }
  | .mhl, v, s => memWrite s (dereference .hl .keep s).1 v
  | .a, v, s => .ok { s with a := v }

/-- Reading a place, with the modification of its pair (R65, 20_memory.md R48). -/
def readLoc (p : Loc) (s : State) : Except FaultCause (Byte × State) :=
  match p with
  | .slot sl =>
    match readSlot sl s with
    | .error x => .error x
    | .ok v => .ok (v, s)
  | .ind pr post =>
    match memRead (dereference pr post s).2 (dereference pr post s).1 with
    | .error x => .error x
    | .ok v => .ok (v, (dereference pr post s).2)

/-- Writing a place, with the modification of its pair. -/
def writeLoc (p : Loc) (v : Byte) (s : State) : Except FaultCause State :=
  match p with
  | .slot sl => writeSlot sl v s
  | .ind pr post => memWrite (dereference pr post s).2 (dereference pr post s).1 v

/-- Reading a source: a place, or the immediate byte, used unsigned and unextended (R68). -/
def readSrc (x : Src) (s : State) : Except FaultCause (Byte × State) :=
  match x with
  | .loc p => readLoc p s
  | .imm d8 => .ok (d8, s)

end Sys2Proof.Machine
end

