-- ==== Sys2Proof/Machine/Steps.lean ====
section
/-! DEFINITION. The own steps of every operation kind (40_sequencer.md R82, R83). A step answers the next state and the in-flight record,
or the fault of its memory access, and then none of its effects stand (R82). -/

namespace Sys2Proof.Machine

/-- What an own step answers. -/
abbrev StepOut := Except FaultCause (State × InFlight)

/-- The operation reports completion with this step. -/
def finish (f : InFlight) : InFlight := { f with done := true }

/-- `INCREASE(s)`, one step (41_alu8.md R127, R128). -/
def stepIncrease (sl : Slot) (f : InFlight) (s : State) : StepOut :=
  match readSlot sl s with
  | .error x => .error x
  | .ok v =>
    match writeSlot sl (inc8 v).1 s with
    | .error x => .error x
    | .ok s1 => .ok (setZNH (inc8 v).2 s1, finish f)

/-- `DECREASE(s)`, one step (41_alu8.md R129, R130). -/
def stepDecrease (sl : Slot) (f : InFlight) (s : State) : StepOut :=
  match readSlot sl s with
  | .error x => .error x
  | .ok v =>
    match writeSlot sl (dec8 v).1 s with
    | .error x => .error x
    | .ok s1 => .ok (setZNH (dec8 v).2 s1, finish f)

/-- `ROTATE_FAST(dir)` on A, one step; Z is not written (42_rotate.md R132 to R134). -/
def stepRotateFast (dir : Dir) (f : InFlight) (s : State) : StepOut :=
  .ok (setFlag .h false (setFlag .n false (setFlag .c (rotate8 dir s.a).2
    { s with a := (rotate8 dir s.a).1 })), finish f)

/-- `ROTATE_NORMAL(s, dir)`, one step (42_rotate.md R135); no opcode reaches it. -/
def stepRotateNormal (sl : Slot) (dir : Dir) (f : InFlight) (s : State) : StepOut :=
  match readSlot sl s with
  | .error x => .error x
  | .ok v =>
    match writeSlot sl (rotate8 dir v).1 s with
    | .error x => .error x
    | .ok s1 =>
      .ok (setZNHC { z := (rotate8 dir v).1 == 0, n := false, h := false, c := (rotate8 dir v).2 } s1, finish f)

/-- `LOAD(dst, src)`, one step; no flag (43_loads.md R136 to R149). -/
def stepLoad (dst : Loc) (src : Src) (f : InFlight) (s : State) : StepOut :=
  match readSrc src s with
  | .error x => .error x
  | .ok (v, s1) =>
    match writeLoc dst v s1 with
    | .error x => .error x
    | .ok s2 => .ok (s2, finish f)

/-- `ALU(kind, src)`, one step; CP writes the flags and not A (41_alu8.md R94, R97). -/
def stepAlu (kind : AluKind) (src : Src) (f : InFlight) (s : State) : StepOut :=
  match readSrc src s with
  | .error x => .error x
  | .ok (v, s1) =>
    let r := aluResult kind s1.a v (getFlag .c s1)
    .ok (setZNHC r.2 (if kind = .cp then s1 else { s1 with a := r.1 }), finish f)

/-- `INC16(p)`, two steps: low byte, then the high byte if the low byte wrapped to 0x00 (44_inc_dec16.md R151). -/
def stepInc16 (p : Pair) (f : InFlight) (s : State) : StepOut :=
  match f.k with
  | 0 => .ok (setPairLow p (pairLow p s + 1) s, { f with wrapped := pairLow p s + 1 == 0x00 })
  | _ + 1 => .ok (if f.wrapped then setPairHigh p (pairHigh p s + 1) s else s, finish f)

/-- `DEC16(p)`, two steps: low byte, then the high byte if the low byte wrapped to 0xFF (44_inc_dec16.md R152). -/
def stepDec16 (p : Pair) (f : InFlight) (s : State) : StepOut :=
  match f.k with
  | 0 => .ok (setPairLow p (pairLow p s - 1) s, { f with wrapped := pairLow p s - 1 == 0xFF })
  | _ + 1 => .ok (if f.wrapped then setPairHigh p (pairHigh p s - 1) s else s, finish f)

/-- `LOAD16(p, d16)`, one step writing both bytes (43_loads.md R150). -/
def stepLoad16 (p : Pair) (d16 : Word) (f : InFlight) (s : State) : StepOut :=
  .ok (writePair p d16 s, finish f)

/-- `PUSH(p)`, two steps: high byte at SP - 1, then low byte at SP - 2 (45_stack.md R156); no opcode reaches it. -/
def stepPush (p : Pair) (f : InFlight) (s : State) : StepOut :=
  match f.k with
  | 0 =>
    match memWrite (dereference .sp .preDec s).2 (dereference .sp .preDec s).1
        (pairHigh p (dereference .sp .preDec s).2) with
    | .error x => .error x
    | .ok s1 => .ok (s1, f)
  | _ + 1 =>
    match memWrite (dereference .sp .preDec s).2 (dereference .sp .preDec s).1
        (pairLow p (dereference .sp .preDec s).2) with
    | .error x => .error x
    | .ok s1 => .ok (s1, finish f)

/-- `POP(p)`, two steps: low byte from SP, then high byte from SP + 1 (45_stack.md R157); no opcode reaches it. -/
def stepPop (p : Pair) (f : InFlight) (s : State) : StepOut :=
  match memRead (dereference .sp .postInc s).2 (dereference .sp .postInc s).1 with
  | .error x => .error x
  | .ok v =>
    match f.k with
    | 0 => .ok (setPairLow p v (dereference .sp .postInc s).2, f)
    | _ + 1 => .ok (setPairHigh p v (dereference .sp .postInc s).2, finish f)

/-- The target of a relative jump from `pc_post`: `trunc16(pc_post + sext_8(e8) + JR_BIAS)` (46_branch.md R158). -/
def jumpTarget (bias : Int) (pcPost : Word) (e8 : Byte) : Word :=
  BitVec.ofInt 16 ((pcPost.toNat : Int) + e8.toInt + bias)

/-- `JR(e8)`, one step (46_branch.md R160). -/
def stepJr (e8 : Byte) (f : InFlight) (s : State) : StepOut :=
  .ok ({ s with pc := jumpTarget Config.jrBias s.pc e8 }, finish f)

/-- `JRCC(cc, e8)`: step 0 latches the condition and completes if it does not hold, step 1 writes PC, only if taken (46_branch.md R161). -/
def stepJrcc (cc : Cond) (e8 : Byte) (f : InFlight) (s : State) : StepOut :=
  match f.k with
  | 0 => .ok (s, { f with taken := condHolds cc s, done := !condHolds cc s })
  | _ + 1 => .ok (if f.taken then { s with pc := jumpTarget Config.jrBias s.pc e8 } else s, finish f)

/-- Own step `f.k` of the in-flight operation (40_sequencer.md R83, R89). -/
def ownStep (f : InFlight) (s : State) : StepOut :=
  match f.op with
  | .increase sl => stepIncrease sl f s
  | .decrease sl => stepDecrease sl f s
  | .rotateFast dir => stepRotateFast dir f s
  | .rotateNormal sl dir => stepRotateNormal sl dir f s
  | .load dst src => stepLoad dst src f s
  | .alu kind src => stepAlu kind src f s
  | .inc16 p => stepInc16 p f s
  | .dec16 p => stepDec16 p f s
  | .load16 p d16 => stepLoad16 p d16 f s
  | .push p => stepPush p f s
  | .pop p => stepPop p f s
  | .jr e8 => stepJr e8 f s
  | .jrcc cc e8 => stepJrcc cc e8 f s

end Sys2Proof.Machine
end

