-- ==== Sys2Proof/Machine/Sequencer.lean ====
section
/-! DEFINITION. The sequencer (40_sequencer.md): one step of the in-flight instruction, running it to completion, and issuing a decoded instruction. -/

namespace Sys2Proof.Machine

/-- The in-flight record a decode creates (R88). -/
def startInFlight (op : Op) (imm : List Byte) (extra : Nat) : InFlight where
  op := op
  imm := imm
  extraLeft := extra
  k := 0
  taken := false
  wrapped := false
  done := false

/-- One step of the in-flight instruction (R89): extra steps first, without effect (R84), then own step `k`; an own step whose access
is out of range has no effect and faults (60_exceptions.md R166); with nothing to step it reports completion (60_exceptions.md R171). -/
def microStep (s : State) : State :=
  match s.inflight with
  | none => { s with result := some (.stepped true) }
  | some f =>
    if f.done then { s with result := some (.stepped true) }
    else
      match f.extraLeft with
      | n + 1 => { s with inflight := some { f with extraLeft := n }, result := some (.stepped false) }
      | 0 =>
        match ownStep f s with
        | .error cause => raiseFault cause s
        | .ok (s1, f1) =>
          { s1 with inflight := some { f1 with k := f.k + 1 }, result := some (.stepped f1.done) }

/-- `repeat: done <- STEP(); t <- t + 1 until done` of R88, for at most `fuel` steps, with `t` steps run before; a fault ends it. -/
def runSteps : Nat → Nat → State → State
  | 0, _, s => s
  | fuel + 1, t, s =>
    match (microStep s).result with
    | some (.stepped false) => runSteps fuel (t + 1) (microStep s)
    | some (.stepped true) => { microStep s with result := some (.completed (t + 1)) }
    | _ => microStep s

/-- No operation kind has more own steps than this (R83). -/
def maxOwnSteps : Nat := 2

/-- The part of CYCLE(mode) after the decode of an instruction (R88): it is put in flight; in Hand mode the command returns the view and
no step has run; in Run mode its steps run to completion or to a fault. -/
def issue (op : Op) (imm : List Byte) (extra : Nat) (s : State) : Outcome :=
  let s1 := { s with inflight := some (startInFlight op imm extra) }
  match s.mode with
  | .hand => .next { s1 with result := some (.decoded s.view) }
  | .run => .next (runSteps (extra + maxOwnSteps) 0 s1)

end Sys2Proof.Machine
end

