-- ==== Sys2Proof/Machine/Alu8.lean ====
section
/-! DEFINITION. The meanings of the eight ALU kinds in their register, (HL) and immediate forms (41_alu8.md R103 to R126): each binds its operation kind, immediates and extra steps (40_sequencer.md R83, R85) and issues it. -/

namespace Sys2Proof.Machine

/-- ADD A,B, opcode 0x80 (R103). -/
def execAddA_B (s : State) : Outcome := issue (.alu .add (.loc (.slot .b))) [] 0 s

/-- ADD A,C, opcode 0x81 (R103). -/
def execAddA_C (s : State) : Outcome := issue (.alu .add (.loc (.slot .c))) [] 0 s

/-- ADD A,D, opcode 0x82 (R103). -/
def execAddA_D (s : State) : Outcome := issue (.alu .add (.loc (.slot .d))) [] 0 s

/-- ADD A,E, opcode 0x83 (R103). -/
def execAddA_E (s : State) : Outcome := issue (.alu .add (.loc (.slot .e))) [] 0 s

/-- ADD A,H, opcode 0x84 (R103). -/
def execAddA_H (s : State) : Outcome := issue (.alu .add (.loc (.slot .h))) [] 0 s

/-- ADD A,L, opcode 0x85 (R103). -/
def execAddA_L (s : State) : Outcome := issue (.alu .add (.loc (.slot .l))) [] 0 s

/-- ADD A,(HL), opcode 0x86 (R104). -/
def execAddA_IndHL (s : State) : Outcome := issue (.alu .add (.loc (.slot .mhl))) [] 1 s

/-- ADD A,A, opcode 0x87 (R103). -/
def execAddA_A (s : State) : Outcome := issue (.alu .add (.loc (.slot .a))) [] 0 s

/-- ADC A,B, opcode 0x88 (R106). -/
def execAdcA_B (s : State) : Outcome := issue (.alu .adc (.loc (.slot .b))) [] 0 s

/-- ADC A,C, opcode 0x89 (R106). -/
def execAdcA_C (s : State) : Outcome := issue (.alu .adc (.loc (.slot .c))) [] 0 s

/-- ADC A,D, opcode 0x8A (R106). -/
def execAdcA_D (s : State) : Outcome := issue (.alu .adc (.loc (.slot .d))) [] 0 s

/-- ADC A,E, opcode 0x8B (R106). -/
def execAdcA_E (s : State) : Outcome := issue (.alu .adc (.loc (.slot .e))) [] 0 s

/-- ADC A,H, opcode 0x8C (R106). -/
def execAdcA_H (s : State) : Outcome := issue (.alu .adc (.loc (.slot .h))) [] 0 s

/-- ADC A,L, opcode 0x8D (R106). -/
def execAdcA_L (s : State) : Outcome := issue (.alu .adc (.loc (.slot .l))) [] 0 s

/-- ADC A,(HL), opcode 0x8E (R107). -/
def execAdcA_IndHL (s : State) : Outcome := issue (.alu .adc (.loc (.slot .mhl))) [] 1 s

/-- ADC A,A, opcode 0x8F (R106). -/
def execAdcA_A (s : State) : Outcome := issue (.alu .adc (.loc (.slot .a))) [] 0 s

/-- SUB A,B, opcode 0x90 (R109). -/
def execSubA_B (s : State) : Outcome := issue (.alu .sub (.loc (.slot .b))) [] 0 s

/-- SUB A,C, opcode 0x91 (R109). -/
def execSubA_C (s : State) : Outcome := issue (.alu .sub (.loc (.slot .c))) [] 0 s

/-- SUB A,D, opcode 0x92 (R109). -/
def execSubA_D (s : State) : Outcome := issue (.alu .sub (.loc (.slot .d))) [] 0 s

/-- SUB A,E, opcode 0x93 (R109). -/
def execSubA_E (s : State) : Outcome := issue (.alu .sub (.loc (.slot .e))) [] 0 s

/-- SUB A,H, opcode 0x94 (R109). -/
def execSubA_H (s : State) : Outcome := issue (.alu .sub (.loc (.slot .h))) [] 0 s

/-- SUB A,L, opcode 0x95 (R109). -/
def execSubA_L (s : State) : Outcome := issue (.alu .sub (.loc (.slot .l))) [] 0 s

/-- SUB A,(HL), opcode 0x96 (R110). -/
def execSubA_IndHL (s : State) : Outcome := issue (.alu .sub (.loc (.slot .mhl))) [] 1 s

/-- SUB A,A, opcode 0x97 (R109). -/
def execSubA_A (s : State) : Outcome := issue (.alu .sub (.loc (.slot .a))) [] 0 s

/-- SBC A,B, opcode 0x98 (R112). -/
def execSbcA_B (s : State) : Outcome := issue (.alu .sbc (.loc (.slot .b))) [] 0 s

/-- SBC A,C, opcode 0x99 (R112). -/
def execSbcA_C (s : State) : Outcome := issue (.alu .sbc (.loc (.slot .c))) [] 0 s

/-- SBC A,D, opcode 0x9A (R112). -/
def execSbcA_D (s : State) : Outcome := issue (.alu .sbc (.loc (.slot .d))) [] 0 s

/-- SBC A,E, opcode 0x9B (R112). -/
def execSbcA_E (s : State) : Outcome := issue (.alu .sbc (.loc (.slot .e))) [] 0 s

/-- SBC A,H, opcode 0x9C (R112). -/
def execSbcA_H (s : State) : Outcome := issue (.alu .sbc (.loc (.slot .h))) [] 0 s

/-- SBC A,L, opcode 0x9D (R112). -/
def execSbcA_L (s : State) : Outcome := issue (.alu .sbc (.loc (.slot .l))) [] 0 s

/-- SBC A,(HL), opcode 0x9E (R113). -/
def execSbcA_IndHL (s : State) : Outcome := issue (.alu .sbc (.loc (.slot .mhl))) [] 1 s

/-- SBC A,A, opcode 0x9F (R112). -/
def execSbcA_A (s : State) : Outcome := issue (.alu .sbc (.loc (.slot .a))) [] 0 s

/-- AND A,B, opcode 0xA0 (R115). -/
def execAndA_B (s : State) : Outcome := issue (.alu .and (.loc (.slot .b))) [] 0 s

/-- AND A,C, opcode 0xA1 (R115). -/
def execAndA_C (s : State) : Outcome := issue (.alu .and (.loc (.slot .c))) [] 0 s

/-- AND A,D, opcode 0xA2 (R115). -/
def execAndA_D (s : State) : Outcome := issue (.alu .and (.loc (.slot .d))) [] 0 s

/-- AND A,E, opcode 0xA3 (R115). -/
def execAndA_E (s : State) : Outcome := issue (.alu .and (.loc (.slot .e))) [] 0 s

/-- AND A,H, opcode 0xA4 (R115). -/
def execAndA_H (s : State) : Outcome := issue (.alu .and (.loc (.slot .h))) [] 0 s

/-- AND A,L, opcode 0xA5 (R115). -/
def execAndA_L (s : State) : Outcome := issue (.alu .and (.loc (.slot .l))) [] 0 s

/-- AND A,(HL), opcode 0xA6 (R116). -/
def execAndA_IndHL (s : State) : Outcome := issue (.alu .and (.loc (.slot .mhl))) [] 1 s

/-- AND A,A, opcode 0xA7 (R115). -/
def execAndA_A (s : State) : Outcome := issue (.alu .and (.loc (.slot .a))) [] 0 s

/-- XOR A,B, opcode 0xA8 (R118). -/
def execXorA_B (s : State) : Outcome := issue (.alu .xor (.loc (.slot .b))) [] 0 s

/-- XOR A,C, opcode 0xA9 (R118). -/
def execXorA_C (s : State) : Outcome := issue (.alu .xor (.loc (.slot .c))) [] 0 s

/-- XOR A,D, opcode 0xAA (R118). -/
def execXorA_D (s : State) : Outcome := issue (.alu .xor (.loc (.slot .d))) [] 0 s

/-- XOR A,E, opcode 0xAB (R118). -/
def execXorA_E (s : State) : Outcome := issue (.alu .xor (.loc (.slot .e))) [] 0 s

/-- XOR A,H, opcode 0xAC (R118). -/
def execXorA_H (s : State) : Outcome := issue (.alu .xor (.loc (.slot .h))) [] 0 s

/-- XOR A,L, opcode 0xAD (R118). -/
def execXorA_L (s : State) : Outcome := issue (.alu .xor (.loc (.slot .l))) [] 0 s

/-- XOR A,(HL), opcode 0xAE (R119). -/
def execXorA_IndHL (s : State) : Outcome := issue (.alu .xor (.loc (.slot .mhl))) [] 1 s

/-- XOR A,A, opcode 0xAF (R118). -/
def execXorA_A (s : State) : Outcome := issue (.alu .xor (.loc (.slot .a))) [] 0 s

/-- OR A,B, opcode 0xB0 (R121). -/
def execOrA_B (s : State) : Outcome := issue (.alu .or (.loc (.slot .b))) [] 0 s

/-- OR A,C, opcode 0xB1 (R121). -/
def execOrA_C (s : State) : Outcome := issue (.alu .or (.loc (.slot .c))) [] 0 s

/-- OR A,D, opcode 0xB2 (R121). -/
def execOrA_D (s : State) : Outcome := issue (.alu .or (.loc (.slot .d))) [] 0 s

/-- OR A,E, opcode 0xB3 (R121). -/
def execOrA_E (s : State) : Outcome := issue (.alu .or (.loc (.slot .e))) [] 0 s

/-- OR A,H, opcode 0xB4 (R121). -/
def execOrA_H (s : State) : Outcome := issue (.alu .or (.loc (.slot .h))) [] 0 s

/-- OR A,L, opcode 0xB5 (R121). -/
def execOrA_L (s : State) : Outcome := issue (.alu .or (.loc (.slot .l))) [] 0 s

/-- OR A,(HL), opcode 0xB6 (R122). -/
def execOrA_IndHL (s : State) : Outcome := issue (.alu .or (.loc (.slot .mhl))) [] 1 s

/-- OR A,A, opcode 0xB7 (R121). -/
def execOrA_A (s : State) : Outcome := issue (.alu .or (.loc (.slot .a))) [] 0 s

/-- CP A,B, opcode 0xB8 (R124). -/
def execCpA_B (s : State) : Outcome := issue (.alu .cp (.loc (.slot .b))) [] 0 s

/-- CP A,C, opcode 0xB9 (R124). -/
def execCpA_C (s : State) : Outcome := issue (.alu .cp (.loc (.slot .c))) [] 0 s

/-- CP A,D, opcode 0xBA (R124). -/
def execCpA_D (s : State) : Outcome := issue (.alu .cp (.loc (.slot .d))) [] 0 s

/-- CP A,E, opcode 0xBB (R124). -/
def execCpA_E (s : State) : Outcome := issue (.alu .cp (.loc (.slot .e))) [] 0 s

/-- CP A,H, opcode 0xBC (R124). -/
def execCpA_H (s : State) : Outcome := issue (.alu .cp (.loc (.slot .h))) [] 0 s

/-- CP A,L, opcode 0xBD (R124). -/
def execCpA_L (s : State) : Outcome := issue (.alu .cp (.loc (.slot .l))) [] 0 s

/-- CP A,(HL), opcode 0xBE (R125). -/
def execCpA_IndHL (s : State) : Outcome := issue (.alu .cp (.loc (.slot .mhl))) [] 1 s

/-- CP A,A, opcode 0xBF (R124). -/
def execCpA_A (s : State) : Outcome := issue (.alu .cp (.loc (.slot .a))) [] 0 s

/-- ADD A,d8, opcode 0xC6 (R105). -/
def execAddA_d8 (d8 : Byte) (s : State) : Outcome := issue (.alu .add (.imm d8)) [d8] 1 s

/-- ADC A,d8, opcode 0xCE (R108). -/
def execAdcA_d8 (d8 : Byte) (s : State) : Outcome := issue (.alu .adc (.imm d8)) [d8] 1 s

/-- SUB A,d8, opcode 0xD6 (R111). -/
def execSubA_d8 (d8 : Byte) (s : State) : Outcome := issue (.alu .sub (.imm d8)) [d8] 1 s

/-- SBC A,d8, opcode 0xDE (R114). -/
def execSbcA_d8 (d8 : Byte) (s : State) : Outcome := issue (.alu .sbc (.imm d8)) [d8] 1 s

/-- AND A,d8, opcode 0xE6 (R117). -/
def execAndA_d8 (d8 : Byte) (s : State) : Outcome := issue (.alu .and (.imm d8)) [d8] 1 s

/-- XOR A,d8, opcode 0xEE (R120). -/
def execXorA_d8 (d8 : Byte) (s : State) : Outcome := issue (.alu .xor (.imm d8)) [d8] 1 s

/-- OR A,d8, opcode 0xF6 (R123). -/
def execOrA_d8 (d8 : Byte) (s : State) : Outcome := issue (.alu .or (.imm d8)) [d8] 1 s

/-- CP A,d8, opcode 0xFE (R126). -/
def execCpA_d8 (d8 : Byte) (s : State) : Outcome := issue (.alu .cp (.imm d8)) [d8] 1 s

end Sys2Proof.Machine
end

