-- ==== Sys2Proof/Machine/Branch.lean ====
section
/-! DEFINITION. The meanings of the relative jumps (46_branch.md R160 and R161): each binds its operation kind, immediates and extra steps (40_sequencer.md R83, R85) and issues it. -/

namespace Sys2Proof.Machine

/-- JR e8, opcode 0x18 (R160). -/
def execJr_e8 (e8 : Byte) (s : State) : Outcome := issue (.jr e8) [e8] 2 s

/-- JR NZ,e8, opcode 0x20 (R161). -/
def execJrNZ_e8 (e8 : Byte) (s : State) : Outcome := issue (.jrcc .nz e8) [e8] 1 s

/-- JR Z,e8, opcode 0x28 (R161). -/
def execJrZ_e8 (e8 : Byte) (s : State) : Outcome := issue (.jrcc .z e8) [e8] 1 s

/-- JR NC,e8, opcode 0x30 (R161). -/
def execJrNC_e8 (e8 : Byte) (s : State) : Outcome := issue (.jrcc .nc e8) [e8] 1 s

/-- JR C,e8, opcode 0x38 (R161). -/
def execJrC_e8 (e8 : Byte) (s : State) : Outcome := issue (.jrcc .c e8) [e8] 1 s

end Sys2Proof.Machine
end

