-- ==== Sys2Proof/Machine/IncDec16.lean ====
section
/-! DEFINITION. The meanings of the 16-bit increments and decrements (44_inc_dec16.md R153 and R154): each binds its operation kind, immediates and extra steps (40_sequencer.md R83, R85) and issues it. -/

namespace Sys2Proof.Machine

/-- INC BC, opcode 0x03 (R153). -/
def execIncBC (s : State) : Outcome := issue (.inc16 .bc) [] 0 s

/-- DEC BC, opcode 0x0B (R154). -/
def execDecBC (s : State) : Outcome := issue (.dec16 .bc) [] 0 s

/-- INC DE, opcode 0x13 (R153). -/
def execIncDE (s : State) : Outcome := issue (.inc16 .de) [] 0 s

/-- DEC DE, opcode 0x1B (R154). -/
def execDecDE (s : State) : Outcome := issue (.dec16 .de) [] 0 s

/-- INC HL, opcode 0x23 (R153). -/
def execIncHL (s : State) : Outcome := issue (.inc16 .hl) [] 0 s

/-- DEC HL, opcode 0x2B (R154). -/
def execDecHL (s : State) : Outcome := issue (.dec16 .hl) [] 0 s

/-- INC SP, opcode 0x33 (R153). -/
def execIncSP (s : State) : Outcome := issue (.inc16 .sp) [] 0 s

/-- DEC SP, opcode 0x3B (R154). -/
def execDecSP (s : State) : Outcome := issue (.dec16 .sp) [] 0 s

end Sys2Proof.Machine
end

