-- ==== Sys2Proof/Machine/IncDec8.lean ====
section
/-! DEFINITION. The meanings of the 8-bit increments and decrements (41_alu8.md R127 to R130): each binds its operation kind, immediates and extra steps (40_sequencer.md R83, R85) and issues it. -/

namespace Sys2Proof.Machine

/-- INC B, opcode 0x04 (R127). -/
def execIncB (s : State) : Outcome := issue (.increase .b) [] 0 s

/-- DEC B, opcode 0x05 (R129). -/
def execDecB (s : State) : Outcome := issue (.decrease .b) [] 0 s

/-- INC C, opcode 0x0C (R127). -/
def execIncC (s : State) : Outcome := issue (.increase .c) [] 0 s

/-- DEC C, opcode 0x0D (R129). -/
def execDecC (s : State) : Outcome := issue (.decrease .c) [] 0 s

/-- INC D, opcode 0x14 (R127). -/
def execIncD (s : State) : Outcome := issue (.increase .d) [] 0 s

/-- DEC D, opcode 0x15 (R129). -/
def execDecD (s : State) : Outcome := issue (.decrease .d) [] 0 s

/-- INC E, opcode 0x1C (R127). -/
def execIncE (s : State) : Outcome := issue (.increase .e) [] 0 s

/-- DEC E, opcode 0x1D (R129). -/
def execDecE (s : State) : Outcome := issue (.decrease .e) [] 0 s

/-- INC H, opcode 0x24 (R127). -/
def execIncH (s : State) : Outcome := issue (.increase .h) [] 0 s

/-- DEC H, opcode 0x25 (R129). -/
def execDecH (s : State) : Outcome := issue (.decrease .h) [] 0 s

/-- INC L, opcode 0x2C (R127). -/
def execIncL (s : State) : Outcome := issue (.increase .l) [] 0 s

/-- DEC L, opcode 0x2D (R129). -/
def execDecL (s : State) : Outcome := issue (.decrease .l) [] 0 s

/-- INC (HL), opcode 0x34 (R128). -/
def execIncIndHL (s : State) : Outcome := issue (.increase .mhl) [] 2 s

/-- DEC (HL), opcode 0x35 (R130). -/
def execDecIndHL (s : State) : Outcome := issue (.decrease .mhl) [] 2 s

/-- INC A, opcode 0x3C (R127). -/
def execIncA (s : State) : Outcome := issue (.increase .a) [] 0 s

/-- DEC A, opcode 0x3D (R129). -/
def execDecA (s : State) : Outcome := issue (.decrease .a) [] 0 s

end Sys2Proof.Machine
end

