-- ==== Sys2Proof/Machine/Loads.lean ====
section
/-! DEFINITION. The meanings of the loads (43_loads.md R136 to R150): each binds its operation kind, immediates and extra steps (40_sequencer.md R83, R85) and issues it. -/

namespace Sys2Proof.Machine

/-- LD BC,d16, opcode 0x01 (R150). -/
def execLdBC_d16 (d16 : Word) (s : State) : Outcome := issue (.load16 .bc d16) [loByte d16, hiByte d16] 2 s

/-- LD (BC),A, opcode 0x02 (R142). -/
def execLdIndBC_A (s : State) : Outcome := issue (.load (.ind .bc .keep) (.loc (.slot .a))) [] 1 s

/-- LD B,d8, opcode 0x06 (R140). -/
def execLdB_d8 (d8 : Byte) (s : State) : Outcome := issue (.load (.slot .b) (.imm d8)) [d8] 1 s

/-- LD A,(BC), opcode 0x0A (R146). -/
def execLdA_IndBC (s : State) : Outcome := issue (.load (.slot .a) (.loc (.ind .bc .keep))) [] 1 s

/-- LD C,d8, opcode 0x0E (R140). -/
def execLdC_d8 (d8 : Byte) (s : State) : Outcome := issue (.load (.slot .c) (.imm d8)) [d8] 1 s

/-- LD DE,d16, opcode 0x11 (R150). -/
def execLdDE_d16 (d16 : Word) (s : State) : Outcome := issue (.load16 .de d16) [loByte d16, hiByte d16] 2 s

/-- LD (DE),A, opcode 0x12 (R143). -/
def execLdIndDE_A (s : State) : Outcome := issue (.load (.ind .de .keep) (.loc (.slot .a))) [] 1 s

/-- LD D,d8, opcode 0x16 (R140). -/
def execLdD_d8 (d8 : Byte) (s : State) : Outcome := issue (.load (.slot .d) (.imm d8)) [d8] 1 s

/-- LD A,(DE), opcode 0x1A (R147). -/
def execLdA_IndDE (s : State) : Outcome := issue (.load (.slot .a) (.loc (.ind .de .keep))) [] 1 s

/-- LD E,d8, opcode 0x1E (R140). -/
def execLdE_d8 (d8 : Byte) (s : State) : Outcome := issue (.load (.slot .e) (.imm d8)) [d8] 1 s

/-- LD HL,d16, opcode 0x21 (R150). -/
def execLdHL_d16 (d16 : Word) (s : State) : Outcome := issue (.load16 .hl d16) [loByte d16, hiByte d16] 2 s

/-- LD (HL+),A, opcode 0x22 (R144). -/
def execLdIndHLInc_A (s : State) : Outcome := issue (.load (.ind .hl .postInc) (.loc (.slot .a))) [] 1 s

/-- LD H,d8, opcode 0x26 (R140). -/
def execLdH_d8 (d8 : Byte) (s : State) : Outcome := issue (.load (.slot .h) (.imm d8)) [d8] 1 s

/-- LD A,(HL+), opcode 0x2A (R148). -/
def execLdA_IndHLInc (s : State) : Outcome := issue (.load (.slot .a) (.loc (.ind .hl .postInc))) [] 1 s

/-- LD L,d8, opcode 0x2E (R140). -/
def execLdL_d8 (d8 : Byte) (s : State) : Outcome := issue (.load (.slot .l) (.imm d8)) [d8] 1 s

/-- LD SP,d16, opcode 0x31 (R150). -/
def execLdSP_d16 (d16 : Word) (s : State) : Outcome := issue (.load16 .sp d16) [loByte d16, hiByte d16] 2 s

/-- LD (HL-),A, opcode 0x32 (R145). -/
def execLdIndHLDec_A (s : State) : Outcome := issue (.load (.ind .hl .postDec) (.loc (.slot .a))) [] 1 s

/-- LD (HL),d8, opcode 0x36 (R141). -/
def execLdIndHL_d8 (d8 : Byte) (s : State) : Outcome := issue (.load (.slot .mhl) (.imm d8)) [d8] 2 s

/-- LD A,(HL-), opcode 0x3A (R149). -/
def execLdA_IndHLDec (s : State) : Outcome := issue (.load (.slot .a) (.loc (.ind .hl .postDec))) [] 1 s

/-- LD A,d8, opcode 0x3E (R140). -/
def execLdA_d8 (d8 : Byte) (s : State) : Outcome := issue (.load (.slot .a) (.imm d8)) [d8] 1 s

/-- LD B,B, opcode 0x40 (R137). -/
def execLdB_B (s : State) : Outcome := issue (.load (.slot .b) (.loc (.slot .b))) [] 0 s

/-- LD B,C, opcode 0x41 (R137). -/
def execLdB_C (s : State) : Outcome := issue (.load (.slot .b) (.loc (.slot .c))) [] 0 s

/-- LD B,D, opcode 0x42 (R137). -/
def execLdB_D (s : State) : Outcome := issue (.load (.slot .b) (.loc (.slot .d))) [] 0 s

/-- LD B,E, opcode 0x43 (R137). -/
def execLdB_E (s : State) : Outcome := issue (.load (.slot .b) (.loc (.slot .e))) [] 0 s

/-- LD B,H, opcode 0x44 (R137). -/
def execLdB_H (s : State) : Outcome := issue (.load (.slot .b) (.loc (.slot .h))) [] 0 s

/-- LD B,L, opcode 0x45 (R137). -/
def execLdB_L (s : State) : Outcome := issue (.load (.slot .b) (.loc (.slot .l))) [] 0 s

/-- LD B,(HL), opcode 0x46 (R138). -/
def execLdB_IndHL (s : State) : Outcome := issue (.load (.slot .b) (.loc (.slot .mhl))) [] 1 s

/-- LD B,A, opcode 0x47 (R137). -/
def execLdB_A (s : State) : Outcome := issue (.load (.slot .b) (.loc (.slot .a))) [] 0 s

/-- LD C,B, opcode 0x48 (R137). -/
def execLdC_B (s : State) : Outcome := issue (.load (.slot .c) (.loc (.slot .b))) [] 0 s

/-- LD C,C, opcode 0x49 (R137). -/
def execLdC_C (s : State) : Outcome := issue (.load (.slot .c) (.loc (.slot .c))) [] 0 s

/-- LD C,D, opcode 0x4A (R137). -/
def execLdC_D (s : State) : Outcome := issue (.load (.slot .c) (.loc (.slot .d))) [] 0 s

/-- LD C,E, opcode 0x4B (R137). -/
def execLdC_E (s : State) : Outcome := issue (.load (.slot .c) (.loc (.slot .e))) [] 0 s

/-- LD C,H, opcode 0x4C (R137). -/
def execLdC_H (s : State) : Outcome := issue (.load (.slot .c) (.loc (.slot .h))) [] 0 s

/-- LD C,L, opcode 0x4D (R137). -/
def execLdC_L (s : State) : Outcome := issue (.load (.slot .c) (.loc (.slot .l))) [] 0 s

/-- LD C,(HL), opcode 0x4E (R138). -/
def execLdC_IndHL (s : State) : Outcome := issue (.load (.slot .c) (.loc (.slot .mhl))) [] 1 s

/-- LD C,A, opcode 0x4F (R137). -/
def execLdC_A (s : State) : Outcome := issue (.load (.slot .c) (.loc (.slot .a))) [] 0 s

/-- LD D,B, opcode 0x50 (R137). -/
def execLdD_B (s : State) : Outcome := issue (.load (.slot .d) (.loc (.slot .b))) [] 0 s

/-- LD D,C, opcode 0x51 (R137). -/
def execLdD_C (s : State) : Outcome := issue (.load (.slot .d) (.loc (.slot .c))) [] 0 s

/-- LD D,D, opcode 0x52 (R137). -/
def execLdD_D (s : State) : Outcome := issue (.load (.slot .d) (.loc (.slot .d))) [] 0 s

/-- LD D,E, opcode 0x53 (R137). -/
def execLdD_E (s : State) : Outcome := issue (.load (.slot .d) (.loc (.slot .e))) [] 0 s

/-- LD D,H, opcode 0x54 (R137). -/
def execLdD_H (s : State) : Outcome := issue (.load (.slot .d) (.loc (.slot .h))) [] 0 s

/-- LD D,L, opcode 0x55 (R137). -/
def execLdD_L (s : State) : Outcome := issue (.load (.slot .d) (.loc (.slot .l))) [] 0 s

/-- LD D,(HL), opcode 0x56 (R138). -/
def execLdD_IndHL (s : State) : Outcome := issue (.load (.slot .d) (.loc (.slot .mhl))) [] 1 s

/-- LD D,A, opcode 0x57 (R137). -/
def execLdD_A (s : State) : Outcome := issue (.load (.slot .d) (.loc (.slot .a))) [] 0 s

/-- LD E,B, opcode 0x58 (R137). -/
def execLdE_B (s : State) : Outcome := issue (.load (.slot .e) (.loc (.slot .b))) [] 0 s

/-- LD E,C, opcode 0x59 (R137). -/
def execLdE_C (s : State) : Outcome := issue (.load (.slot .e) (.loc (.slot .c))) [] 0 s

/-- LD E,D, opcode 0x5A (R137). -/
def execLdE_D (s : State) : Outcome := issue (.load (.slot .e) (.loc (.slot .d))) [] 0 s

/-- LD E,E, opcode 0x5B (R137). -/
def execLdE_E (s : State) : Outcome := issue (.load (.slot .e) (.loc (.slot .e))) [] 0 s

/-- LD E,H, opcode 0x5C (R137). -/
def execLdE_H (s : State) : Outcome := issue (.load (.slot .e) (.loc (.slot .h))) [] 0 s

/-- LD E,L, opcode 0x5D (R137). -/
def execLdE_L (s : State) : Outcome := issue (.load (.slot .e) (.loc (.slot .l))) [] 0 s

/-- LD E,(HL), opcode 0x5E (R138). -/
def execLdE_IndHL (s : State) : Outcome := issue (.load (.slot .e) (.loc (.slot .mhl))) [] 1 s

/-- LD E,A, opcode 0x5F (R137). -/
def execLdE_A (s : State) : Outcome := issue (.load (.slot .e) (.loc (.slot .a))) [] 0 s

/-- LD H,B, opcode 0x60 (R137). -/
def execLdH_B (s : State) : Outcome := issue (.load (.slot .h) (.loc (.slot .b))) [] 0 s

/-- LD H,C, opcode 0x61 (R137). -/
def execLdH_C (s : State) : Outcome := issue (.load (.slot .h) (.loc (.slot .c))) [] 0 s

/-- LD H,D, opcode 0x62 (R137). -/
def execLdH_D (s : State) : Outcome := issue (.load (.slot .h) (.loc (.slot .d))) [] 0 s

/-- LD H,E, opcode 0x63 (R137). -/
def execLdH_E (s : State) : Outcome := issue (.load (.slot .h) (.loc (.slot .e))) [] 0 s

/-- LD H,H, opcode 0x64 (R137). -/
def execLdH_H (s : State) : Outcome := issue (.load (.slot .h) (.loc (.slot .h))) [] 0 s

/-- LD H,L, opcode 0x65 (R137). -/
def execLdH_L (s : State) : Outcome := issue (.load (.slot .h) (.loc (.slot .l))) [] 0 s

/-- LD H,(HL), opcode 0x66 (R138). -/
def execLdH_IndHL (s : State) : Outcome := issue (.load (.slot .h) (.loc (.slot .mhl))) [] 1 s

/-- LD H,A, opcode 0x67 (R137). -/
def execLdH_A (s : State) : Outcome := issue (.load (.slot .h) (.loc (.slot .a))) [] 0 s

/-- LD L,B, opcode 0x68 (R137). -/
def execLdL_B (s : State) : Outcome := issue (.load (.slot .l) (.loc (.slot .b))) [] 0 s

/-- LD L,C, opcode 0x69 (R137). -/
def execLdL_C (s : State) : Outcome := issue (.load (.slot .l) (.loc (.slot .c))) [] 0 s

/-- LD L,D, opcode 0x6A (R137). -/
def execLdL_D (s : State) : Outcome := issue (.load (.slot .l) (.loc (.slot .d))) [] 0 s

/-- LD L,E, opcode 0x6B (R137). -/
def execLdL_E (s : State) : Outcome := issue (.load (.slot .l) (.loc (.slot .e))) [] 0 s

/-- LD L,H, opcode 0x6C (R137). -/
def execLdL_H (s : State) : Outcome := issue (.load (.slot .l) (.loc (.slot .h))) [] 0 s

/-- LD L,L, opcode 0x6D (R137). -/
def execLdL_L (s : State) : Outcome := issue (.load (.slot .l) (.loc (.slot .l))) [] 0 s

/-- LD L,(HL), opcode 0x6E (R138). -/
def execLdL_IndHL (s : State) : Outcome := issue (.load (.slot .l) (.loc (.slot .mhl))) [] 1 s

/-- LD L,A, opcode 0x6F (R137). -/
def execLdL_A (s : State) : Outcome := issue (.load (.slot .l) (.loc (.slot .a))) [] 0 s

/-- LD (HL),B, opcode 0x70 (R139). -/
def execLdIndHL_B (s : State) : Outcome := issue (.load (.slot .mhl) (.loc (.slot .b))) [] 1 s

/-- LD (HL),C, opcode 0x71 (R139). -/
def execLdIndHL_C (s : State) : Outcome := issue (.load (.slot .mhl) (.loc (.slot .c))) [] 1 s

/-- LD (HL),D, opcode 0x72 (R139). -/
def execLdIndHL_D (s : State) : Outcome := issue (.load (.slot .mhl) (.loc (.slot .d))) [] 1 s

/-- LD (HL),E, opcode 0x73 (R139). -/
def execLdIndHL_E (s : State) : Outcome := issue (.load (.slot .mhl) (.loc (.slot .e))) [] 1 s

/-- LD (HL),H, opcode 0x74 (R139). -/
def execLdIndHL_H (s : State) : Outcome := issue (.load (.slot .mhl) (.loc (.slot .h))) [] 1 s

/-- LD (HL),L, opcode 0x75 (R139). -/
def execLdIndHL_L (s : State) : Outcome := issue (.load (.slot .mhl) (.loc (.slot .l))) [] 1 s

/-- LD (HL),A, opcode 0x77 (R139). -/
def execLdIndHL_A (s : State) : Outcome := issue (.load (.slot .mhl) (.loc (.slot .a))) [] 1 s

/-- LD A,B, opcode 0x78 (R137). -/
def execLdA_B (s : State) : Outcome := issue (.load (.slot .a) (.loc (.slot .b))) [] 0 s

/-- LD A,C, opcode 0x79 (R137). -/
def execLdA_C (s : State) : Outcome := issue (.load (.slot .a) (.loc (.slot .c))) [] 0 s

/-- LD A,D, opcode 0x7A (R137). -/
def execLdA_D (s : State) : Outcome := issue (.load (.slot .a) (.loc (.slot .d))) [] 0 s

/-- LD A,E, opcode 0x7B (R137). -/
def execLdA_E (s : State) : Outcome := issue (.load (.slot .a) (.loc (.slot .e))) [] 0 s

/-- LD A,H, opcode 0x7C (R137). -/
def execLdA_H (s : State) : Outcome := issue (.load (.slot .a) (.loc (.slot .h))) [] 0 s

/-- LD A,L, opcode 0x7D (R137). -/
def execLdA_L (s : State) : Outcome := issue (.load (.slot .a) (.loc (.slot .l))) [] 0 s

/-- LD A,(HL), opcode 0x7E (R138). -/
def execLdA_IndHL (s : State) : Outcome := issue (.load (.slot .a) (.loc (.slot .mhl))) [] 1 s

/-- LD A,A, opcode 0x7F (R137). -/
def execLdA_A (s : State) : Outcome := issue (.load (.slot .a) (.loc (.slot .a))) [] 0 s

end Sys2Proof.Machine
end

