-- ==== Sys2Proof/Machine/Rotate.lean ====
section
/-! DEFINITION. The meanings of the accumulator rotates (42_rotate.md R133 and R134): each binds its operation kind, immediates and extra steps (40_sequencer.md R83, R85) and issues it. -/

namespace Sys2Proof.Machine

/-- RLCA, opcode 0x07 (R133). -/
def execRlca (s : State) : Outcome := issue (.rotateFast .left) [] 0 s

/-- RRCA, opcode 0x0F (R134). -/
def execRrca (s : State) : Outcome := issue (.rotateFast .right) [] 0 s

end Sys2Proof.Machine
end

