-- ==== Sys2Proof/Machine/Unimplemented.lean ====
section
/-! DEFINITION. The meaning of the 70 unimplemented opcodes (30_encoding.md R75, 60_exceptions.md R165). -/

namespace Sys2Proof.Machine

/-- An unimplemented opcode (R165): the fetch has happened; no instruction is put in flight and the previous one is discarded; the
fault register takes `Unimplemented(o)`; nothing else changes. The operand bytes are fetched and never interpreted (30_encoding.md R77). -/
def execUnimplemented (o : Byte) (_operands : List Byte) (s : State) : Outcome :=
  .next (raiseFault (.unimplemented o) s)

end Sys2Proof.Machine
end

