-- ==== Sys2Proof/Syntax.lean ====
section
/-! DEFINITION. The instructions: one constructor per mnemonic of spec/opcode_table.json. The 70 rows whose mnemonic is UNIMPLEMENTED
(30_encoding.md R75) share the last one, which carries the opcode byte and the operand bytes that are fetched and never interpreted. -/

namespace Sys2Proof

/-- An instruction with its immediate operands (30_encoding.md R60, R68, R71 to R75): `d8` unsigned byte, `e8` the offset byte
(read as signed where it is used), `d16` the joined 16-bit immediate. -/
inductive Instr where
  | ldBC_d16 (d16 : Word)  -- LD BC,d16, 0x01, R150
  | ldIndBC_A  -- LD (BC),A, 0x02, R142
  | incBC  -- INC BC, 0x03, R153
  | incB  -- INC B, 0x04, R127
  | decB  -- DEC B, 0x05, R129
  | ldB_d8 (d8 : Byte)  -- LD B,d8, 0x06, R140
  | rlca  -- RLCA, 0x07, R133
  | ldA_IndBC  -- LD A,(BC), 0x0A, R146
  | decBC  -- DEC BC, 0x0B, R154
  | incC  -- INC C, 0x0C, R127
  | decC  -- DEC C, 0x0D, R129
  | ldC_d8 (d8 : Byte)  -- LD C,d8, 0x0E, R140
  | rrca  -- RRCA, 0x0F, R134
  | ldDE_d16 (d16 : Word)  -- LD DE,d16, 0x11, R150
  | ldIndDE_A  -- LD (DE),A, 0x12, R143
  | incDE  -- INC DE, 0x13, R153
  | incD  -- INC D, 0x14, R127
  | decD  -- DEC D, 0x15, R129
  | ldD_d8 (d8 : Byte)  -- LD D,d8, 0x16, R140
  | jr_e8 (e8 : Byte)  -- JR e8, 0x18, R160
  | ldA_IndDE  -- LD A,(DE), 0x1A, R147
  | decDE  -- DEC DE, 0x1B, R154
  | incE  -- INC E, 0x1C, R127
  | decE  -- DEC E, 0x1D, R129
  | ldE_d8 (d8 : Byte)  -- LD E,d8, 0x1E, R140
  | jrNZ_e8 (e8 : Byte)  -- JR NZ,e8, 0x20, R161
  | ldHL_d16 (d16 : Word)  -- LD HL,d16, 0x21, R150
  | ldIndHLInc_A  -- LD (HL+),A, 0x22, R144
  | incHL  -- INC HL, 0x23, R153
  | incH  -- INC H, 0x24, R127
  | decH  -- DEC H, 0x25, R129
  | ldH_d8 (d8 : Byte)  -- LD H,d8, 0x26, R140
  | jrZ_e8 (e8 : Byte)  -- JR Z,e8, 0x28, R161
  | ldA_IndHLInc  -- LD A,(HL+), 0x2A, R148
  | decHL  -- DEC HL, 0x2B, R154
  | incL  -- INC L, 0x2C, R127
  | decL  -- DEC L, 0x2D, R129
  | ldL_d8 (d8 : Byte)  -- LD L,d8, 0x2E, R140
  | jrNC_e8 (e8 : Byte)  -- JR NC,e8, 0x30, R161
  | ldSP_d16 (d16 : Word)  -- LD SP,d16, 0x31, R150
  | ldIndHLDec_A  -- LD (HL-),A, 0x32, R145
  | incSP  -- INC SP, 0x33, R153
  | incIndHL  -- INC (HL), 0x34, R128
  | decIndHL  -- DEC (HL), 0x35, R130
  | ldIndHL_d8 (d8 : Byte)  -- LD (HL),d8, 0x36, R141
  | jrC_e8 (e8 : Byte)  -- JR C,e8, 0x38, R161
  | ldA_IndHLDec  -- LD A,(HL-), 0x3A, R149
  | decSP  -- DEC SP, 0x3B, R154
  | incA  -- INC A, 0x3C, R127
  | decA  -- DEC A, 0x3D, R129
  | ldA_d8 (d8 : Byte)  -- LD A,d8, 0x3E, R140
  | ldB_B  -- LD B,B, 0x40, R137
  | ldB_C  -- LD B,C, 0x41, R137
  | ldB_D  -- LD B,D, 0x42, R137
  | ldB_E  -- LD B,E, 0x43, R137
  | ldB_H  -- LD B,H, 0x44, R137
  | ldB_L  -- LD B,L, 0x45, R137
  | ldB_IndHL  -- LD B,(HL), 0x46, R138
  | ldB_A  -- LD B,A, 0x47, R137
  | ldC_B  -- LD C,B, 0x48, R137
  | ldC_C  -- LD C,C, 0x49, R137
  | ldC_D  -- LD C,D, 0x4A, R137
  | ldC_E  -- LD C,E, 0x4B, R137
  | ldC_H  -- LD C,H, 0x4C, R137
  | ldC_L  -- LD C,L, 0x4D, R137
  | ldC_IndHL  -- LD C,(HL), 0x4E, R138
  | ldC_A  -- LD C,A, 0x4F, R137
  | ldD_B  -- LD D,B, 0x50, R137
  | ldD_C  -- LD D,C, 0x51, R137
  | ldD_D  -- LD D,D, 0x52, R137
  | ldD_E  -- LD D,E, 0x53, R137
  | ldD_H  -- LD D,H, 0x54, R137
  | ldD_L  -- LD D,L, 0x55, R137
  | ldD_IndHL  -- LD D,(HL), 0x56, R138
  | ldD_A  -- LD D,A, 0x57, R137
  | ldE_B  -- LD E,B, 0x58, R137
  | ldE_C  -- LD E,C, 0x59, R137
  | ldE_D  -- LD E,D, 0x5A, R137
  | ldE_E  -- LD E,E, 0x5B, R137
  | ldE_H  -- LD E,H, 0x5C, R137
  | ldE_L  -- LD E,L, 0x5D, R137
  | ldE_IndHL  -- LD E,(HL), 0x5E, R138
  | ldE_A  -- LD E,A, 0x5F, R137
  | ldH_B  -- LD H,B, 0x60, R137
  | ldH_C  -- LD H,C, 0x61, R137
  | ldH_D  -- LD H,D, 0x62, R137
  | ldH_E  -- LD H,E, 0x63, R137
  | ldH_H  -- LD H,H, 0x64, R137
  | ldH_L  -- LD H,L, 0x65, R137
  | ldH_IndHL  -- LD H,(HL), 0x66, R138
  | ldH_A  -- LD H,A, 0x67, R137
  | ldL_B  -- LD L,B, 0x68, R137
  | ldL_C  -- LD L,C, 0x69, R137
  | ldL_D  -- LD L,D, 0x6A, R137
  | ldL_E  -- LD L,E, 0x6B, R137
  | ldL_H  -- LD L,H, 0x6C, R137
  | ldL_L  -- LD L,L, 0x6D, R137
  | ldL_IndHL  -- LD L,(HL), 0x6E, R138
  | ldL_A  -- LD L,A, 0x6F, R137
  | ldIndHL_B  -- LD (HL),B, 0x70, R139
  | ldIndHL_C  -- LD (HL),C, 0x71, R139
  | ldIndHL_D  -- LD (HL),D, 0x72, R139
  | ldIndHL_E  -- LD (HL),E, 0x73, R139
  | ldIndHL_H  -- LD (HL),H, 0x74, R139
  | ldIndHL_L  -- LD (HL),L, 0x75, R139
  | ldIndHL_A  -- LD (HL),A, 0x77, R139
  | ldA_B  -- LD A,B, 0x78, R137
  | ldA_C  -- LD A,C, 0x79, R137
  | ldA_D  -- LD A,D, 0x7A, R137
  | ldA_E  -- LD A,E, 0x7B, R137
  | ldA_H  -- LD A,H, 0x7C, R137
  | ldA_L  -- LD A,L, 0x7D, R137
  | ldA_IndHL  -- LD A,(HL), 0x7E, R138
  | ldA_A  -- LD A,A, 0x7F, R137
  | addA_B  -- ADD A,B, 0x80, R103
  | addA_C  -- ADD A,C, 0x81, R103
  | addA_D  -- ADD A,D, 0x82, R103
  | addA_E  -- ADD A,E, 0x83, R103
  | addA_H  -- ADD A,H, 0x84, R103
  | addA_L  -- ADD A,L, 0x85, R103
  | addA_IndHL  -- ADD A,(HL), 0x86, R104
  | addA_A  -- ADD A,A, 0x87, R103
  | adcA_B  -- ADC A,B, 0x88, R106
  | adcA_C  -- ADC A,C, 0x89, R106
  | adcA_D  -- ADC A,D, 0x8A, R106
  | adcA_E  -- ADC A,E, 0x8B, R106
  | adcA_H  -- ADC A,H, 0x8C, R106
  | adcA_L  -- ADC A,L, 0x8D, R106
  | adcA_IndHL  -- ADC A,(HL), 0x8E, R107
  | adcA_A  -- ADC A,A, 0x8F, R106
  | subA_B  -- SUB A,B, 0x90, R109
  | subA_C  -- SUB A,C, 0x91, R109
  | subA_D  -- SUB A,D, 0x92, R109
  | subA_E  -- SUB A,E, 0x93, R109
  | subA_H  -- SUB A,H, 0x94, R109
  | subA_L  -- SUB A,L, 0x95, R109
  | subA_IndHL  -- SUB A,(HL), 0x96, R110
  | subA_A  -- SUB A,A, 0x97, R109
  | sbcA_B  -- SBC A,B, 0x98, R112
  | sbcA_C  -- SBC A,C, 0x99, R112
  | sbcA_D  -- SBC A,D, 0x9A, R112
  | sbcA_E  -- SBC A,E, 0x9B, R112
  | sbcA_H  -- SBC A,H, 0x9C, R112
  | sbcA_L  -- SBC A,L, 0x9D, R112
  | sbcA_IndHL  -- SBC A,(HL), 0x9E, R113
  | sbcA_A  -- SBC A,A, 0x9F, R112
  | andA_B  -- AND A,B, 0xA0, R115
  | andA_C  -- AND A,C, 0xA1, R115
  | andA_D  -- AND A,D, 0xA2, R115
  | andA_E  -- AND A,E, 0xA3, R115
  | andA_H  -- AND A,H, 0xA4, R115
  | andA_L  -- AND A,L, 0xA5, R115
  | andA_IndHL  -- AND A,(HL), 0xA6, R116
  | andA_A  -- AND A,A, 0xA7, R115
  | xorA_B  -- XOR A,B, 0xA8, R118
  | xorA_C  -- XOR A,C, 0xA9, R118
  | xorA_D  -- XOR A,D, 0xAA, R118
  | xorA_E  -- XOR A,E, 0xAB, R118
  | xorA_H  -- XOR A,H, 0xAC, R118
  | xorA_L  -- XOR A,L, 0xAD, R118
  | xorA_IndHL  -- XOR A,(HL), 0xAE, R119
  | xorA_A  -- XOR A,A, 0xAF, R118
  | orA_B  -- OR A,B, 0xB0, R121
  | orA_C  -- OR A,C, 0xB1, R121
  | orA_D  -- OR A,D, 0xB2, R121
  | orA_E  -- OR A,E, 0xB3, R121
  | orA_H  -- OR A,H, 0xB4, R121
  | orA_L  -- OR A,L, 0xB5, R121
  | orA_IndHL  -- OR A,(HL), 0xB6, R122
  | orA_A  -- OR A,A, 0xB7, R121
  | cpA_B  -- CP A,B, 0xB8, R124
  | cpA_C  -- CP A,C, 0xB9, R124
  | cpA_D  -- CP A,D, 0xBA, R124
  | cpA_E  -- CP A,E, 0xBB, R124
  | cpA_H  -- CP A,H, 0xBC, R124
  | cpA_L  -- CP A,L, 0xBD, R124
  | cpA_IndHL  -- CP A,(HL), 0xBE, R125
  | cpA_A  -- CP A,A, 0xBF, R124
  | addA_d8 (d8 : Byte)  -- ADD A,d8, 0xC6, R105
  | adcA_d8 (d8 : Byte)  -- ADC A,d8, 0xCE, R108
  | subA_d8 (d8 : Byte)  -- SUB A,d8, 0xD6, R111
  | sbcA_d8 (d8 : Byte)  -- SBC A,d8, 0xDE, R114
  | andA_d8 (d8 : Byte)  -- AND A,d8, 0xE6, R117
  | xorA_d8 (d8 : Byte)  -- XOR A,d8, 0xEE, R120
  | orA_d8 (d8 : Byte)  -- OR A,d8, 0xF6, R123
  | cpA_d8 (d8 : Byte)  -- CP A,d8, 0xFE, R126
  | unimplemented (o : Byte) (operands : List Byte)  -- the 70 opcodes of R75, R165
  deriving DecidableEq, Repr

end Sys2Proof
end

