-- ==== Sys2Proof/Decode.lean ====
section
/-! DEFINITION. Decoding (30_encoding.md): the fields of the opcode byte, the operand-byte count, the decoder, the region
rules R71 to R74 in fields, and the encoder. -/

namespace Sys2Proof

/-- A field of the opcode byte: `n` bits from bit `lo` up (00_scope.md R12). -/
def opField (o : Byte) (lo n : Nat) : Nat := (o.toNat / 2 ^ lo) % 2 ^ n

/-- `x = o[7:6]` (R61). -/
def fieldX (o : Byte) : Nat := opField o 6 2
/-- `y = o[5:3]` (R61). -/
def fieldY (o : Byte) : Nat := opField o 3 3
/-- `z = o[2:0]` (R61). -/
def fieldZ (o : Byte) : Nat := opField o 0 3
/-- `p = o[5:4]` (R61). -/
def fieldP (o : Byte) : Nat := opField o 4 2
/-- `q = o[3]` (R61). -/
def fieldQ (o : Byte) : Nat := opField o 3 1
/-- The upper nibble `u = o[7:4]` (R61). -/
def upperNibble (o : Byte) : Nat := opField o 4 4
/-- The lower nibble `l = o[3:0]` (R61). -/
def lowerNibble (o : Byte) : Nat := opField o 0 4

/-- The table of R69, one row per upper nibble, one column per lower nibble. -/
def argumentCounts : List (List Nat) :=
  [[0, 2, 0, 0, 0, 0, 1, 0, 2, 0, 0, 0, 0, 0, 1, 0],
   [1, 2, 0, 0, 0, 0, 1, 0, 1, 0, 0, 0, 0, 0, 1, 0],
   [1, 2, 0, 0, 0, 0, 1, 0, 1, 0, 0, 0, 0, 0, 1, 0],
   [1, 2, 0, 0, 0, 0, 1, 0, 1, 0, 0, 0, 0, 0, 1, 0],
   [0, 0, 0, 0, 0, 0, 0, 0, 0, 0, 0, 0, 0, 0, 0, 0],
   [0, 0, 0, 0, 0, 0, 0, 0, 0, 0, 0, 0, 0, 0, 0, 0],
   [0, 0, 0, 0, 0, 0, 0, 0, 0, 0, 0, 0, 0, 0, 0, 0],
   [0, 0, 0, 0, 0, 0, 0, 0, 0, 0, 0, 0, 0, 0, 0, 0],
   [0, 0, 0, 0, 0, 0, 0, 0, 0, 0, 0, 0, 0, 0, 0, 0],
   [0, 0, 0, 0, 0, 0, 0, 0, 0, 0, 0, 0, 0, 0, 0, 0],
   [0, 0, 0, 0, 0, 0, 0, 0, 0, 0, 0, 0, 0, 0, 0, 0],
   [0, 0, 0, 0, 0, 0, 0, 0, 0, 0, 0, 0, 0, 0, 0, 0],
   [0, 0, 2, 2, 2, 0, 1, 0, 0, 0, 2, 1, 2, 2, 1, 0],
   [0, 0, 2, 0, 2, 0, 1, 0, 0, 0, 2, 0, 2, 0, 1, 0],
   [1, 0, 0, 0, 0, 0, 1, 0, 1, 0, 2, 0, 0, 0, 1, 0],
   [1, 0, 0, 0, 0, 0, 1, 0, 1, 0, 2, 0, 0, 0, 1, 0]]

/-- `ArgumentCount(opcode)`: the number of operand bytes, from the opcode alone (R69). -/
def argumentCount (o : Byte) : Nat :=
  (argumentCounts.getD (upperNibble o) []).getD (lowerNibble o) 0

/-- Row 0x0x of the opcode map (R78). -/
def opcodeRow0 (u : Instr) (d8 : Byte) (d16 : Word) : List Instr :=
  [u, .ldBC_d16 d16, .ldIndBC_A, .incBC,
   .incB, .decB, .ldB_d8 d8, .rlca,
   u, u, .ldA_IndBC, .decBC,
   .incC, .decC, .ldC_d8 d8, .rrca]

/-- Row 0x1x of the opcode map (R78). -/
def opcodeRow1 (u : Instr) (d8 : Byte) (d16 : Word) : List Instr :=
  [u, .ldDE_d16 d16, .ldIndDE_A, .incDE,
   .incD, .decD, .ldD_d8 d8, u,
   .jr_e8 d8, u, .ldA_IndDE, .decDE,
   .incE, .decE, .ldE_d8 d8, u]

/-- Row 0x2x of the opcode map (R78). -/
def opcodeRow2 (u : Instr) (d8 : Byte) (d16 : Word) : List Instr :=
  [.jrNZ_e8 d8, .ldHL_d16 d16, .ldIndHLInc_A, .incHL,
   .incH, .decH, .ldH_d8 d8, u,
   .jrZ_e8 d8, u, .ldA_IndHLInc, .decHL,
   .incL, .decL, .ldL_d8 d8, u]

/-- Row 0x3x of the opcode map (R78). -/
def opcodeRow3 (u : Instr) (d8 : Byte) (d16 : Word) : List Instr :=
  [.jrNC_e8 d8, .ldSP_d16 d16, .ldIndHLDec_A, .incSP,
   .incIndHL, .decIndHL, .ldIndHL_d8 d8, u,
   .jrC_e8 d8, u, .ldA_IndHLDec, .decSP,
   .incA, .decA, .ldA_d8 d8, u]

/-- Row 0x4x of the opcode map (R78). -/
def opcodeRow4 : List Instr :=
  [.ldB_B, .ldB_C, .ldB_D, .ldB_E,
   .ldB_H, .ldB_L, .ldB_IndHL, .ldB_A,
   .ldC_B, .ldC_C, .ldC_D, .ldC_E,
   .ldC_H, .ldC_L, .ldC_IndHL, .ldC_A]

/-- Row 0x5x of the opcode map (R78). -/
def opcodeRow5 : List Instr :=
  [.ldD_B, .ldD_C, .ldD_D, .ldD_E,
   .ldD_H, .ldD_L, .ldD_IndHL, .ldD_A,
   .ldE_B, .ldE_C, .ldE_D, .ldE_E,
   .ldE_H, .ldE_L, .ldE_IndHL, .ldE_A]

/-- Row 0x6x of the opcode map (R78). -/
def opcodeRow6 : List Instr :=
  [.ldH_B, .ldH_C, .ldH_D, .ldH_E,
   .ldH_H, .ldH_L, .ldH_IndHL, .ldH_A,
   .ldL_B, .ldL_C, .ldL_D, .ldL_E,
   .ldL_H, .ldL_L, .ldL_IndHL, .ldL_A]

/-- Row 0x7x of the opcode map (R78). -/
def opcodeRow7 (u : Instr) : List Instr :=
  [.ldIndHL_B, .ldIndHL_C, .ldIndHL_D, .ldIndHL_E,
   .ldIndHL_H, .ldIndHL_L, u, .ldIndHL_A,
   .ldA_B, .ldA_C, .ldA_D, .ldA_E,
   .ldA_H, .ldA_L, .ldA_IndHL, .ldA_A]

/-- Row 0x8x of the opcode map (R78). -/
def opcodeRow8 : List Instr :=
  [.addA_B, .addA_C, .addA_D, .addA_E,
   .addA_H, .addA_L, .addA_IndHL, .addA_A,
   .adcA_B, .adcA_C, .adcA_D, .adcA_E,
   .adcA_H, .adcA_L, .adcA_IndHL, .adcA_A]

/-- Row 0x9x of the opcode map (R78). -/
def opcodeRow9 : List Instr :=
  [.subA_B, .subA_C, .subA_D, .subA_E,
   .subA_H, .subA_L, .subA_IndHL, .subA_A,
   .sbcA_B, .sbcA_C, .sbcA_D, .sbcA_E,
   .sbcA_H, .sbcA_L, .sbcA_IndHL, .sbcA_A]

/-- Row 0xAx of the opcode map (R78). -/
def opcodeRowA : List Instr :=
  [.andA_B, .andA_C, .andA_D, .andA_E,
   .andA_H, .andA_L, .andA_IndHL, .andA_A,
   .xorA_B, .xorA_C, .xorA_D, .xorA_E,
   .xorA_H, .xorA_L, .xorA_IndHL, .xorA_A]

/-- Row 0xBx of the opcode map (R78). -/
def opcodeRowB : List Instr :=
  [.orA_B, .orA_C, .orA_D, .orA_E,
   .orA_H, .orA_L, .orA_IndHL, .orA_A,
   .cpA_B, .cpA_C, .cpA_D, .cpA_E,
   .cpA_H, .cpA_L, .cpA_IndHL, .cpA_A]

/-- Row 0xCx of the opcode map (R78). -/
def opcodeRowC (u : Instr) (d8 : Byte) : List Instr :=
  [u, u, u, u,
   u, u, .addA_d8 d8, u,
   u, u, u, u,
   u, u, .adcA_d8 d8, u]

/-- Row 0xDx of the opcode map (R78). -/
def opcodeRowD (u : Instr) (d8 : Byte) : List Instr :=
  [u, u, u, u,
   u, u, .subA_d8 d8, u,
   u, u, u, u,
   u, u, .sbcA_d8 d8, u]

/-- Row 0xEx of the opcode map (R78). -/
def opcodeRowE (u : Instr) (d8 : Byte) : List Instr :=
  [u, u, u, u,
   u, u, .andA_d8 d8, u,
   u, u, u, u,
   u, u, .xorA_d8 d8, u]

/-- Row 0xFx of the opcode map (R78). -/
def opcodeRowF (u : Instr) (d8 : Byte) : List Instr :=
  [u, u, u, u,
   u, u, .orA_d8 d8, u,
   u, u, u, u,
   u, u, .cpA_d8 d8, u]

/-- The opcode map of R78 by upper nibble, with the immediates of R68; `u` stands where the map says unimplemented. -/
def opcodeMap (u : Instr) (d8 : Byte) (d16 : Word) : List (List Instr) :=
  [opcodeRow0 u d8 d16, opcodeRow1 u d8 d16, opcodeRow2 u d8 d16, opcodeRow3 u d8 d16,
   opcodeRow4, opcodeRow5, opcodeRow6, opcodeRow7 u,
   opcodeRow8, opcodeRow9, opcodeRowA, opcodeRowB,
   opcodeRowC u d8, opcodeRowD u d8, opcodeRowE u d8, opcodeRowF u d8]

/-- `d8` and `e8` of R68: the first operand byte. -/
def immD8 (operands : List Byte) : Byte := operands.getD 0 0

/-- `d16 = b2 ++ b1` of R68: the first operand byte is the low byte (decision D9). -/
def immD16 (operands : List Byte) : Word := Machine.joinBytes (operands.getD 1 0) (operands.getD 0 0)

/-- `Decode(o, b1, b2)` of R70: total over the 256 opcodes, a pure function of the opcode and its operand bytes. -/
def decodeOpcode (o : Byte) (operands : List Byte) : Instr :=
  let u := Instr.unimplemented o operands
  ((opcodeMap u (immD8 operands) (immD16 operands)).getD (upperNibble o) []).getD (lowerNibble o) u

/-- Why a byte string holds no whole instruction. Decoding itself rejects nothing else: an opcode without semantics decodes
to `unimplemented` (R75). -/
inductive DecodeError where
  | noOpcode                -- no byte at all
  | truncated (o : Byte)    -- fewer operand bytes than R69 asks for
  deriving DecidableEq, Repr

/-- The instruction at the head of a byte string, and the bytes after it (R60, R69, R70). -/
def decode : List Byte → Except DecodeError (Instr × List Byte)
  | [] => .error .noOpcode
  | o :: rest =>
    if rest.length < argumentCount o then .error (.truncated o)
    else .ok (decodeOpcode o (rest.take (argumentCount o)), rest.drop (argumentCount o))

/-- The low `nbits` bits of `w`, laid out as the three bytes of the longest instruction, first byte lowest; the bits above
are zero. -/
def tableBytes (nbits w : Nat) : List Byte :=
  let v := w % 2 ^ nbits
  [trunc8 v, trunc8 (v / 256), trunc8 (v / 65536)]

/-- The decoder on an opcode-table word: bit 0 is the least significant bit of the first byte. -/
def decodeTableWord (nbits w : Nat) : Option Instr :=
  match decode (tableBytes nbits w) with
  | .ok (i, _) => some i
  | .error _ => none

/-! The region rules R71 to R74 written in the fields, independently of the map above. -/

/-- What the decoder binds (R70): the operation kind with its operands, the decoded immediates, the extra steps (R85). -/
structure Binding where
  op : Machine.Op
  imm : List Byte
  extra : Nat
  deriving DecidableEq, Repr

/-- The slot table of R63. -/
def slotOfIndex : Nat → Machine.Slot
  | 0 => .b
  | 1 => .c
  | 2 => .d
  | 3 => .e
  | 4 => .h
  | 5 => .l
  | 6 => .mhl
  | _ => .a

/-- The pair table of R64. -/
def pairOfIndex : Nat → Machine.Pair
  | 0 => .bc
  | 1 => .de
  | 2 => .hl
  | _ => .sp

/-- The indirect operands of R65. -/
def indirectOfIndex : Nat → Machine.Loc
  | 0 => .ind .bc .keep
  | 1 => .ind .de .keep
  | 2 => .ind .hl .postInc
  | _ => .ind .hl .postDec

/-- The ALU kinds of R66. -/
def aluKindOfIndex : Nat → Machine.AluKind
  | 0 => .add
  | 1 => .adc
  | 2 => .sub
  | 3 => .sbc
  | 4 => .and
  | 5 => .xor
  | 6 => .or
  | _ => .cp

/-- The conditions of R67. -/
def condOfIndex : Nat → Machine.Cond
  | 0 => .nz
  | 1 => .z
  | 2 => .nc
  | _ => .c

/-- Block 0 (R71), with the extra steps of R85. -/
def regionBlock0 (o : Byte) (operands : List Byte) : Option Binding :=
  let y := fieldY o
  let z := fieldZ o
  let p := fieldP o
  if lowerNibble o = 0x1 then some ⟨.load16 (pairOfIndex p) (immD16 operands), operands, 2⟩
  else if lowerNibble o = 0x3 then some ⟨.inc16 (pairOfIndex p), operands, 0⟩
  else if lowerNibble o = 0xB then some ⟨.dec16 (pairOfIndex p), operands, 0⟩
  else if lowerNibble o = 0x2 then some ⟨.load (indirectOfIndex p) (.loc (.slot .a)), operands, 1⟩
  else if lowerNibble o = 0xA then some ⟨.load (.slot .a) (.loc (indirectOfIndex p)), operands, 1⟩
  else if z = 4 then some ⟨.increase (slotOfIndex y), operands, if y = 6 then 2 else 0⟩
  else if z = 5 then some ⟨.decrease (slotOfIndex y), operands, if y = 6 then 2 else 0⟩
  else if z = 6 then
    some ⟨.load (.slot (slotOfIndex y)) (.imm (immD8 operands)), operands, if y = 6 then 2 else 1⟩
  else if z = 7 ∧ upperNibble o = 0 then
    some ⟨.rotateFast (if fieldQ o = 0 then .left else .right), operands, 0⟩
  else if z = 0 ∧ y = 3 then some ⟨.jr (immD8 operands), operands, 2⟩
  else if z = 0 ∧ 4 ≤ y then some ⟨.jrcc (condOfIndex (y - 4)) (immD8 operands), operands, 1⟩
  else none

/-- Block 1 (R72): 0x76 is unimplemented; touching slot 6 costs one extra step (R85). -/
def regionBlock1 (o : Byte) (operands : List Byte) : Option Binding :=
  if fieldY o = 6 ∧ fieldZ o = 6 then none
  else some ⟨.load (.slot (slotOfIndex (fieldY o))) (.loc (.slot (slotOfIndex (fieldZ o)))), operands,
    if fieldY o = 6 ∨ fieldZ o = 6 then 1 else 0⟩

/-- Block 2 (R73): the eight-way ALU family on the slot table. -/
def regionBlock2 (o : Byte) (operands : List Byte) : Option Binding :=
  some ⟨.alu (aluKindOfIndex (fieldY o)) (.loc (.slot (slotOfIndex (fieldZ o)))), operands,
    if fieldZ o = 6 then 1 else 0⟩

/-- The ALU-immediate region (R74); every other opcode of the upper quarter is unimplemented (R75). -/
def regionAluImm (o : Byte) (operands : List Byte) : Option Binding :=
  if 0xC6 ≤ o.toNat ∧ fieldZ o = 6 then
    some ⟨.alu (aluKindOfIndex ((o.toNat - 0xC6) / 8)) (.imm (immD8 operands)), operands, 1⟩
  else none

/-- The decoder by regions (R70 to R75): what an opcode binds, or nothing where it is unimplemented. -/
def regionDecode (o : Byte) (operands : List Byte) : Option Binding :=
  if fieldX o = 0 then regionBlock0 o operands
  else if fieldX o = 1 then regionBlock1 o operands
  else if fieldX o = 2 then regionBlock2 o operands
  else regionAluImm o operands

/-! The encoder, from the encodings of 41_alu8.md to 46_branch.md. -/

/-- The opcode byte of an instruction. -/
def opcode : Instr → Byte
  | .ldBC_d16 _ => 0x01
  | .ldIndBC_A => 0x02
  | .incBC => 0x03
  | .incB => 0x04
  | .decB => 0x05
  | .ldB_d8 _ => 0x06
  | .rlca => 0x07
  | .ldA_IndBC => 0x0A
  | .decBC => 0x0B
  | .incC => 0x0C
  | .decC => 0x0D
  | .ldC_d8 _ => 0x0E
  | .rrca => 0x0F
  | .ldDE_d16 _ => 0x11
  | .ldIndDE_A => 0x12
  | .incDE => 0x13
  | .incD => 0x14
  | .decD => 0x15
  | .ldD_d8 _ => 0x16
  | .jr_e8 _ => 0x18
  | .ldA_IndDE => 0x1A
  | .decDE => 0x1B
  | .incE => 0x1C
  | .decE => 0x1D
  | .ldE_d8 _ => 0x1E
  | .jrNZ_e8 _ => 0x20
  | .ldHL_d16 _ => 0x21
  | .ldIndHLInc_A => 0x22
  | .incHL => 0x23
  | .incH => 0x24
  | .decH => 0x25
  | .ldH_d8 _ => 0x26
  | .jrZ_e8 _ => 0x28
  | .ldA_IndHLInc => 0x2A
  | .decHL => 0x2B
  | .incL => 0x2C
  | .decL => 0x2D
  | .ldL_d8 _ => 0x2E
  | .jrNC_e8 _ => 0x30
  | .ldSP_d16 _ => 0x31
  | .ldIndHLDec_A => 0x32
  | .incSP => 0x33
  | .incIndHL => 0x34
  | .decIndHL => 0x35
  | .ldIndHL_d8 _ => 0x36
  | .jrC_e8 _ => 0x38
  | .ldA_IndHLDec => 0x3A
  | .decSP => 0x3B
  | .incA => 0x3C
  | .decA => 0x3D
  | .ldA_d8 _ => 0x3E
  | .ldB_B => 0x40
  | .ldB_C => 0x41
  | .ldB_D => 0x42
  | .ldB_E => 0x43
  | .ldB_H => 0x44
  | .ldB_L => 0x45
  | .ldB_IndHL => 0x46
  | .ldB_A => 0x47
  | .ldC_B => 0x48
  | .ldC_C => 0x49
  | .ldC_D => 0x4A
  | .ldC_E => 0x4B
  | .ldC_H => 0x4C
  | .ldC_L => 0x4D
  | .ldC_IndHL => 0x4E
  | .ldC_A => 0x4F
  | .ldD_B => 0x50
  | .ldD_C => 0x51
  | .ldD_D => 0x52
  | .ldD_E => 0x53
  | .ldD_H => 0x54
  | .ldD_L => 0x55
  | .ldD_IndHL => 0x56
  | .ldD_A => 0x57
  | .ldE_B => 0x58
  | .ldE_C => 0x59
  | .ldE_D => 0x5A
  | .ldE_E => 0x5B
  | .ldE_H => 0x5C
  | .ldE_L => 0x5D
  | .ldE_IndHL => 0x5E
  | .ldE_A => 0x5F
  | .ldH_B => 0x60
  | .ldH_C => 0x61
  | .ldH_D => 0x62
  | .ldH_E => 0x63
  | .ldH_H => 0x64
  | .ldH_L => 0x65
  | .ldH_IndHL => 0x66
  | .ldH_A => 0x67
  | .ldL_B => 0x68
  | .ldL_C => 0x69
  | .ldL_D => 0x6A
  | .ldL_E => 0x6B
  | .ldL_H => 0x6C
  | .ldL_L => 0x6D
  | .ldL_IndHL => 0x6E
  | .ldL_A => 0x6F
  | .ldIndHL_B => 0x70
  | .ldIndHL_C => 0x71
  | .ldIndHL_D => 0x72
  | .ldIndHL_E => 0x73
  | .ldIndHL_H => 0x74
  | .ldIndHL_L => 0x75
  | .ldIndHL_A => 0x77
  | .ldA_B => 0x78
  | .ldA_C => 0x79
  | .ldA_D => 0x7A
  | .ldA_E => 0x7B
  | .ldA_H => 0x7C
  | .ldA_L => 0x7D
  | .ldA_IndHL => 0x7E
  | .ldA_A => 0x7F
  | .addA_B => 0x80
  | .addA_C => 0x81
  | .addA_D => 0x82
  | .addA_E => 0x83
  | .addA_H => 0x84
  | .addA_L => 0x85
  | .addA_IndHL => 0x86
  | .addA_A => 0x87
  | .adcA_B => 0x88
  | .adcA_C => 0x89
  | .adcA_D => 0x8A
  | .adcA_E => 0x8B
  | .adcA_H => 0x8C
  | .adcA_L => 0x8D
  | .adcA_IndHL => 0x8E
  | .adcA_A => 0x8F
  | .subA_B => 0x90
  | .subA_C => 0x91
  | .subA_D => 0x92
  | .subA_E => 0x93
  | .subA_H => 0x94
  | .subA_L => 0x95
  | .subA_IndHL => 0x96
  | .subA_A => 0x97
  | .sbcA_B => 0x98
  | .sbcA_C => 0x99
  | .sbcA_D => 0x9A
  | .sbcA_E => 0x9B
  | .sbcA_H => 0x9C
  | .sbcA_L => 0x9D
  | .sbcA_IndHL => 0x9E
  | .sbcA_A => 0x9F
  | .andA_B => 0xA0
  | .andA_C => 0xA1
  | .andA_D => 0xA2
  | .andA_E => 0xA3
  | .andA_H => 0xA4
  | .andA_L => 0xA5
  | .andA_IndHL => 0xA6
  | .andA_A => 0xA7
  | .xorA_B => 0xA8
  | .xorA_C => 0xA9
  | .xorA_D => 0xAA
  | .xorA_E => 0xAB
  | .xorA_H => 0xAC
  | .xorA_L => 0xAD
  | .xorA_IndHL => 0xAE
  | .xorA_A => 0xAF
  | .orA_B => 0xB0
  | .orA_C => 0xB1
  | .orA_D => 0xB2
  | .orA_E => 0xB3
  | .orA_H => 0xB4
  | .orA_L => 0xB5
  | .orA_IndHL => 0xB6
  | .orA_A => 0xB7
  | .cpA_B => 0xB8
  | .cpA_C => 0xB9
  | .cpA_D => 0xBA
  | .cpA_E => 0xBB
  | .cpA_H => 0xBC
  | .cpA_L => 0xBD
  | .cpA_IndHL => 0xBE
  | .cpA_A => 0xBF
  | .addA_d8 _ => 0xC6
  | .adcA_d8 _ => 0xCE
  | .subA_d8 _ => 0xD6
  | .sbcA_d8 _ => 0xDE
  | .andA_d8 _ => 0xE6
  | .xorA_d8 _ => 0xEE
  | .orA_d8 _ => 0xF6
  | .cpA_d8 _ => 0xFE
  | .unimplemented o _ => o

/-- The operand bytes of an instruction, in fetch order (R68). -/
def operandBytes : Instr → List Byte
  | .ldBC_d16 d16 => [Machine.loByte d16, Machine.hiByte d16]
  | .ldIndBC_A => []
  | .incBC => []
  | .incB => []
  | .decB => []
  | .ldB_d8 d8 => [d8]
  | .rlca => []
  | .ldA_IndBC => []
  | .decBC => []
  | .incC => []
  | .decC => []
  | .ldC_d8 d8 => [d8]
  | .rrca => []
  | .ldDE_d16 d16 => [Machine.loByte d16, Machine.hiByte d16]
  | .ldIndDE_A => []
  | .incDE => []
  | .incD => []
  | .decD => []
  | .ldD_d8 d8 => [d8]
  | .jr_e8 e8 => [e8]
  | .ldA_IndDE => []
  | .decDE => []
  | .incE => []
  | .decE => []
  | .ldE_d8 d8 => [d8]
  | .jrNZ_e8 e8 => [e8]
  | .ldHL_d16 d16 => [Machine.loByte d16, Machine.hiByte d16]
  | .ldIndHLInc_A => []
  | .incHL => []
  | .incH => []
  | .decH => []
  | .ldH_d8 d8 => [d8]
  | .jrZ_e8 e8 => [e8]
  | .ldA_IndHLInc => []
  | .decHL => []
  | .incL => []
  | .decL => []
  | .ldL_d8 d8 => [d8]
  | .jrNC_e8 e8 => [e8]
  | .ldSP_d16 d16 => [Machine.loByte d16, Machine.hiByte d16]
  | .ldIndHLDec_A => []
  | .incSP => []
  | .incIndHL => []
  | .decIndHL => []
  | .ldIndHL_d8 d8 => [d8]
  | .jrC_e8 e8 => [e8]
  | .ldA_IndHLDec => []
  | .decSP => []
  | .incA => []
  | .decA => []
  | .ldA_d8 d8 => [d8]
  | .ldB_B => []
  | .ldB_C => []
  | .ldB_D => []
  | .ldB_E => []
  | .ldB_H => []
  | .ldB_L => []
  | .ldB_IndHL => []
  | .ldB_A => []
  | .ldC_B => []
  | .ldC_C => []
  | .ldC_D => []
  | .ldC_E => []
  | .ldC_H => []
  | .ldC_L => []
  | .ldC_IndHL => []
  | .ldC_A => []
  | .ldD_B => []
  | .ldD_C => []
  | .ldD_D => []
  | .ldD_E => []
  | .ldD_H => []
  | .ldD_L => []
  | .ldD_IndHL => []
  | .ldD_A => []
  | .ldE_B => []
  | .ldE_C => []
  | .ldE_D => []
  | .ldE_E => []
  | .ldE_H => []
  | .ldE_L => []
  | .ldE_IndHL => []
  | .ldE_A => []
  | .ldH_B => []
  | .ldH_C => []
  | .ldH_D => []
  | .ldH_E => []
  | .ldH_H => []
  | .ldH_L => []
  | .ldH_IndHL => []
  | .ldH_A => []
  | .ldL_B => []
  | .ldL_C => []
  | .ldL_D => []
  | .ldL_E => []
  | .ldL_H => []
  | .ldL_L => []
  | .ldL_IndHL => []
  | .ldL_A => []
  | .ldIndHL_B => []
  | .ldIndHL_C => []
  | .ldIndHL_D => []
  | .ldIndHL_E => []
  | .ldIndHL_H => []
  | .ldIndHL_L => []
  | .ldIndHL_A => []
  | .ldA_B => []
  | .ldA_C => []
  | .ldA_D => []
  | .ldA_E => []
  | .ldA_H => []
  | .ldA_L => []
  | .ldA_IndHL => []
  | .ldA_A => []
  | .addA_B => []
  | .addA_C => []
  | .addA_D => []
  | .addA_E => []
  | .addA_H => []
  | .addA_L => []
  | .addA_IndHL => []
  | .addA_A => []
  | .adcA_B => []
  | .adcA_C => []
  | .adcA_D => []
  | .adcA_E => []
  | .adcA_H => []
  | .adcA_L => []
  | .adcA_IndHL => []
  | .adcA_A => []
  | .subA_B => []
  | .subA_C => []
  | .subA_D => []
  | .subA_E => []
  | .subA_H => []
  | .subA_L => []
  | .subA_IndHL => []
  | .subA_A => []
  | .sbcA_B => []
  | .sbcA_C => []
  | .sbcA_D => []
  | .sbcA_E => []
  | .sbcA_H => []
  | .sbcA_L => []
  | .sbcA_IndHL => []
  | .sbcA_A => []
  | .andA_B => []
  | .andA_C => []
  | .andA_D => []
  | .andA_E => []
  | .andA_H => []
  | .andA_L => []
  | .andA_IndHL => []
  | .andA_A => []
  | .xorA_B => []
  | .xorA_C => []
  | .xorA_D => []
  | .xorA_E => []
  | .xorA_H => []
  | .xorA_L => []
  | .xorA_IndHL => []
  | .xorA_A => []
  | .orA_B => []
  | .orA_C => []
  | .orA_D => []
  | .orA_E => []
  | .orA_H => []
  | .orA_L => []
  | .orA_IndHL => []
  | .orA_A => []
  | .cpA_B => []
  | .cpA_C => []
  | .cpA_D => []
  | .cpA_E => []
  | .cpA_H => []
  | .cpA_L => []
  | .cpA_IndHL => []
  | .cpA_A => []
  | .addA_d8 d8 => [d8]
  | .adcA_d8 d8 => [d8]
  | .subA_d8 d8 => [d8]
  | .sbcA_d8 d8 => [d8]
  | .andA_d8 d8 => [d8]
  | .xorA_d8 d8 => [d8]
  | .orA_d8 d8 => [d8]
  | .cpA_d8 d8 => [d8]
  | .unimplemented _ operands => operands

/-- The bytes of an instruction at ascending addresses (R60). -/
def encode (i : Instr) : List Byte := opcode i :: operandBytes i

end Sys2Proof
end

