-- ==== Sys2Proof/WellFormed.lean ====
section
/-! DEFINITION. Which terms of Instr are instructions: every one with an opcode of its own is; `unimplemented` must carry one
of the 70 opcodes of 30_encoding.md R75 and as many operand bytes as R69 gives that opcode. -/

namespace Sys2Proof

/-- R75, block 0: thirteen opcodes. -/
def unimplementedBlock0 : List Byte :=
  [0x00, 0x08, 0x10, 0x09, 0x19, 0x29, 0x39, 0x17, 0x1F, 0x27, 0x2F, 0x37, 0x3F]

/-- R75, block 1: halt. -/
def unimplementedBlock1 : List Byte := [0x76]

/-- R75, upper nibble 0xC to 0xF: fifty-six opcodes. -/
def unimplementedUpper : List Byte :=
  [0xC0, 0xC1, 0xC2, 0xC3, 0xC4, 0xC5, 0xC7, 0xC8,
   0xC9, 0xCA, 0xCB, 0xCC, 0xCD, 0xCF, 0xD0, 0xD1,
   0xD2, 0xD3, 0xD4, 0xD5, 0xD7, 0xD8, 0xD9, 0xDA,
   0xDB, 0xDC, 0xDD, 0xDF, 0xE0, 0xE1, 0xE2, 0xE3,
   0xE4, 0xE5, 0xE7, 0xE8, 0xE9, 0xEA, 0xEB, 0xEC,
   0xED, 0xEF, 0xF0, 0xF1, 0xF2, 0xF3, 0xF4, 0xF5,
   0xF7, 0xF8, 0xF9, 0xFA, 0xFB, 0xFC, 0xFD, 0xFF]

/-- The 70 unimplemented opcodes (R75). -/
def unimplementedOpcodes : List Byte := unimplementedBlock0 ++ unimplementedBlock1 ++ unimplementedUpper

/-- A term of Instr that some bytes in memory stand for. -/
def Instr.wellFormed : Instr → Bool
  | .ldBC_d16 _ | .ldIndBC_A | .incBC | .incB | .decB | .ldB_d8 _ => true
  | .rlca | .ldA_IndBC | .decBC | .incC | .decC | .ldC_d8 _ => true
  | .rrca | .ldDE_d16 _ | .ldIndDE_A | .incDE | .incD | .decD => true
  | .ldD_d8 _ | .jr_e8 _ | .ldA_IndDE | .decDE | .incE | .decE => true
  | .ldE_d8 _ | .jrNZ_e8 _ | .ldHL_d16 _ | .ldIndHLInc_A | .incHL | .incH => true
  | .decH | .ldH_d8 _ | .jrZ_e8 _ | .ldA_IndHLInc | .decHL | .incL => true
  | .decL | .ldL_d8 _ | .jrNC_e8 _ | .ldSP_d16 _ | .ldIndHLDec_A | .incSP => true
  | .incIndHL | .decIndHL | .ldIndHL_d8 _ | .jrC_e8 _ | .ldA_IndHLDec | .decSP => true
  | .incA | .decA | .ldA_d8 _ | .ldB_B | .ldB_C | .ldB_D => true
  | .ldB_E | .ldB_H | .ldB_L | .ldB_IndHL | .ldB_A | .ldC_B => true
  | .ldC_C | .ldC_D | .ldC_E | .ldC_H | .ldC_L | .ldC_IndHL => true
  | .ldC_A | .ldD_B | .ldD_C | .ldD_D | .ldD_E | .ldD_H => true
  | .ldD_L | .ldD_IndHL | .ldD_A | .ldE_B | .ldE_C | .ldE_D => true
  | .ldE_E | .ldE_H | .ldE_L | .ldE_IndHL | .ldE_A | .ldH_B => true
  | .ldH_C | .ldH_D | .ldH_E | .ldH_H | .ldH_L | .ldH_IndHL => true
  | .ldH_A | .ldL_B | .ldL_C | .ldL_D | .ldL_E | .ldL_H => true
  | .ldL_L | .ldL_IndHL | .ldL_A | .ldIndHL_B | .ldIndHL_C | .ldIndHL_D => true
  | .ldIndHL_E | .ldIndHL_H | .ldIndHL_L | .ldIndHL_A | .ldA_B | .ldA_C => true
  | .ldA_D | .ldA_E | .ldA_H | .ldA_L | .ldA_IndHL | .ldA_A => true
  | .addA_B | .addA_C | .addA_D | .addA_E | .addA_H | .addA_L => true
  | .addA_IndHL | .addA_A | .adcA_B | .adcA_C | .adcA_D | .adcA_E => true
  | .adcA_H | .adcA_L | .adcA_IndHL | .adcA_A | .subA_B | .subA_C => true
  | .subA_D | .subA_E | .subA_H | .subA_L | .subA_IndHL | .subA_A => true
  | .sbcA_B | .sbcA_C | .sbcA_D | .sbcA_E | .sbcA_H | .sbcA_L => true
  | .sbcA_IndHL | .sbcA_A | .andA_B | .andA_C | .andA_D | .andA_E => true
  | .andA_H | .andA_L | .andA_IndHL | .andA_A | .xorA_B | .xorA_C => true
  | .xorA_D | .xorA_E | .xorA_H | .xorA_L | .xorA_IndHL | .xorA_A => true
  | .orA_B | .orA_C | .orA_D | .orA_E | .orA_H | .orA_L => true
  | .orA_IndHL | .orA_A | .cpA_B | .cpA_C | .cpA_D | .cpA_E => true
  | .cpA_H | .cpA_L | .cpA_IndHL | .cpA_A | .addA_d8 _ | .adcA_d8 _ => true
  | .subA_d8 _ | .sbcA_d8 _ | .andA_d8 _ | .xorA_d8 _ | .orA_d8 _ | .cpA_d8 _ => true
  | .unimplemented o operands =>
    unimplementedOpcodes.contains o && operands.length == argumentCount o

end Sys2Proof
end

