-- ==== Sys2Proof/Machine/Commands.lean ====
section
/-! DEFINITION. The fetch and the host's moves: CYCLE, STEP, RESET (40_sequencer.md R86 to R89; 70_reset_and_hazards.md R182) and the memory owner's write (20_memory.md R55). -/

namespace Sys2Proof.Machine

/-- One byte of the instruction stream: read at PC, then PC advanced by one modulo 2^16 (R86, 10_state.md R34). A fault keeps the state as it is. -/
def fetchByte (s : State) : Except (FaultCause × State) (Byte × State) :=
  match memRead s s.pc with
  | .error cause => .error (cause, s)
  | .ok v => .ok (v, { s with pc := s.pc + 1 })

/-- `n` operand bytes in ascending order (R86). A fault keeps the PC increments of the bytes already read. -/
def fetchOperands : Nat → State → Except (FaultCause × State) (List Byte × State)
  | 0, s => .ok ([], s)
  | n + 1, s =>
    match fetchByte s with
    | .error x => .error x
    | .ok (v, s1) =>
      match fetchOperands n s1 with
      | .error x => .error x
      | .ok (vs, s2) => .ok (v :: vs, s2)

/-- `Fetch()` (R86): the opcode, its operand bytes, and the state with PC = pc_post and the debug view written. -/
def fetch (s : State) : Except (FaultCause × State) (Byte × List Byte × State) :=
  match fetchByte s with
  | .error x => .error x
  | .ok (o, s1) =>
    match fetchOperands (argumentCount o) s1 with
    | .error x => .error x
    | .ok (operands, s2) =>
      .ok (o, operands, { s2 with view := some { opcode := o, count := argumentCount o, bytes := operands } })

/-- A declined command: it changes no state, only its result is new (60_exceptions.md R170). -/
def decline (why : Declined) (s : State) : State := { s with result := some (.refused why) }

/-- `CYCLE(mode)` (R88): declined on a faulted core, then on a busy one; otherwise fetch, decode and execute. -/
def cycleCommand (m : CycleMode) (s : State) : Outcome :=
  if s.fault.isSome then .next (decline .faulted s)
  else if s.busy then .next (decline .busy s)
  else
    match fetch s with
    | .error (cause, s1) => .next (raiseFault cause s1)
    | .ok (o, operands, s1) => exec (decodeOpcode o operands) { s1 with mode := m }

/-- `STEP` (R89): declined on a faulted core, otherwise one step of the in-flight instruction. -/
def stepCommand (s : State) : State :=
  if s.fault.isSome then decline .faulted s else microStep s

/-- The memory owner writes one byte, at an instruction boundary only (20_memory.md R55; log entry 6). It is no command and returns no result. -/
def ownerWrite (a : Word) (v : Byte) (s : State) : Outcome :=
  if s.busy then .fault .ownerMidInstruction
  else if a.toNat < s.memSize then .next { s with mem := s.mem.write a.toNat v }
  else .fault .ownerOutsideStorage

/-- One move of the host. -/
def perform (mv : HostMove) (s : State) : Outcome :=
  match mv with
  | .reset => .next (construct s)
  | .cycle m => cycleCommand m s
  | .step => .next (stepCommand s)
  | .ownerWrite a v => ownerWrite a v s

/-- The host's next move and the moves after it; with no move named the host runs the next instruction, CYCLE(Run) (log entry 1). -/
def nextMove (s : State) : HostMove × List HostMove :=
  match s.host with
  | [] => (.cycle .run, [])
  | mv :: rest => (mv, rest)

/-- The storage with bytes placed at consecutive addresses modulo 2^16. -/
def placeBytes (m : Memory) (at_ : Word) : List Byte → Memory
  | [] => m
  | v :: vs => placeBytes (m.write at_.toNat v) (at_ + 1) vs

end Sys2Proof.Machine
end

