-- ==== Sys2Proof/Machine/Step.lean ====
section
/-! DEFINITION. One step of the machine: the host's next move (40_sequencer.md R80, R81). -/

namespace Sys2Proof.Machine

/-- The next move of the host, taken off its list and performed. -/
def step (s : State) : Host.Outcome State Fault Refusal :=
  perform (nextMove s).1 { s with host := (nextMove s).2 }

/-- The state in which the very next step fetches and runs the instruction with these bits: its bytes stand at PC (the memory owner's
load, log entry 8), the storage has this hardware's size, no fault and no incomplete instruction bars the CYCLE, and CYCLE(Run) is the
host's next move. -/
def State.withFetchWord (s : State) (nbits w : Nat) : State :=
  { s with
    mem := placeBytes s.mem s.pc (tableBytes nbits w)
    memSize := Config.memSize
    fault := none
    inflight := if s.busy then none else s.inflight
    host := .cycle .run :: s.host }

end Sys2Proof.Machine
end

