-- ==== Sys2Proof/Safety.lean ====
section
/-! DEFINITION. What statements are written in: frames (what a step leaves unchanged), completion, operand values, and the invariants of the machine. -/

namespace Sys2Proof.Machine

/-! ### Registers by name, and frames -/

/-- The byte registers of 10_state.md R20, R21, R28. -/
inductive Reg where
  | a | f | b | c | d | e | h | l | sph | spl
  deriving DecidableEq, Repr

/-- The byte a register holds. -/
def regValue : Reg → State → Byte
  | .a, s => s.a
  | .f, s => s.f
  | .b, s => s.b
  | .c, s => s.c
  | .d, s => s.d
  | .e, s => s.e
  | .h, s => s.h
  | .l, s => s.l
  | .sph, s => s.sph
  | .spl, s => s.spl

/-- The two registers of a pair, high byte first (R24). -/
def pairRegs : Pair → List Reg
  | .bc => [.b, .c]
  | .de => [.d, .e]
  | .hl => [.h, .l]
  | .sp => [.sph, .spl]

/-- Every byte register outside `rs` is unchanged, F among them unless named. -/
def KeepsRegsBut (rs : List Reg) (s t : State) : Prop :=
  ∀ r : Reg, r ∉ rs → regValue r t = regValue r s

/-- Every flag outside `fs` is unchanged, and so are the four bits of F that hold no flag. -/
def KeepsFlagsBut (fs : List Flag) (s t : State) : Prop :=
  (∀ fl : Flag, fl ∉ fs → getFlag fl t = getFlag fl s) ∧ t.f &&& 0x0F = s.f &&& 0x0F

/-- Every byte of the storage reads as before. -/
def KeepsMemory (s t : State) : Prop := ∀ a : Nat, t.mem.read a = s.mem.read a

/-- Every byte of the storage but the one at `w` reads as before. -/
def KeepsMemoryBut (w : Nat) (s t : State) : Prop := ∀ a : Nat, a ≠ w → t.mem.read a = s.mem.read a

/-- The fault register, the debug view, the size of the storage and the host's side are unchanged. -/
def KeepsControl (s t : State) : Prop :=
  t.fault = s.fault ∧ t.view = s.view ∧ t.memSize = s.memSize ∧ t.mode = s.mode ∧ t.host = s.host

/-- The instruction has run to completion in `n` steps (60_exceptions.md R163): the command's result says so, the in-flight record
reports completion, and the control state is unchanged. -/
def CompletedIn (n : Nat) (s t : State) : Prop :=
  t.result = some (.completed n) ∧ (∃ f, t.inflight = some f ∧ f.done = true) ∧ KeepsControl s t

/-- An instruction that stores nothing and leaves PC at `pc_post`: completion in `n` steps, storage and PC unchanged. -/
def CompletedNoStore (n : Nat) (s t : State) : Prop :=
  CompletedIn n s t ∧ t.pc = s.pc ∧ KeepsMemory s t

/-- The four flags after an instruction. -/
def FlagsAre (z n h c : Bool) (t : State) : Prop :=
  getFlag .z t = z ∧ getFlag .n t = n ∧ getFlag .h t = h ∧ getFlag .c t = c

/-- The frame of an ALU instruction (41_alu8.md R94): at most A and the four flags change, in `n` steps. -/
def AluFrame (n : Nat) (s t : State) : Prop :=
  KeepsRegsBut [.a, .f] s t ∧ KeepsFlagsBut [.z, .n, .h, .c] s t ∧ CompletedNoStore n s t

/-- The opcode with these operand bytes decodes to an instruction that, issued in Hand mode, is put in flight as this operation with these
immediates and extra steps, and no step has run (40_sequencer.md R88). -/
def BindsTo (o : Byte) (operands : List Byte) (op : Op) (extra : Nat) : Prop :=
  ∀ s : State, s.mode = .hand →
    exec (decodeOpcode o operands) s =
      .next { s with inflight := some (startInFlight op operands extra), result := some (.decoded s.view) }

/-! ### Operands -/

/-- An operand of an instruction as its rule names it: a register, the byte a pair points at, an immediate byte. -/
inductive Operand where
  | reg (r : Reg)
  | at (p : Pair)
  | imm (v : Byte)
  deriving DecidableEq, Repr

/-- The operand's value in a state. -/
def Operand.value : Operand → State → Byte
  | .reg r, s => regValue r s
  | .at p, s => s.mem.read (readPair p s).toNat
  | .imm v, _ => v

/-- The operand's access, if it is one, is inside the storage (20_memory.md R43). -/
def Operand.inRange : Operand → State → Prop
  | .reg _, _ => True
  | .at p, s => (readPair p s).toNat < s.memSize
  | .imm _, _ => True

/-! ### Bytes in memory -/

/-- The three bytes at PC and the two addresses after it, modulo 2^16. -/
def bytesAtPc (s : State) : List Byte :=
  [s.mem.read s.pc.toNat, s.mem.read (s.pc + 1).toNat, s.mem.read (s.pc + 2).toNat]

/-- `n` further bytes of the instruction stream are inside the storage. -/
def fetchInRange (s : State) : Nat → Prop
  | 0 => s.pc.toNat < s.memSize
  | n + 1 => fetchInRange s n ∧ (s.pc + BitVec.ofNat 16 (n + 1)).toNat < s.memSize

/-! ### Commands repeated -/

/-- `STEP` issued `n` times. -/
def stepTimes : Nat → State → State
  | 0, s => s
  | n + 1, s => stepTimes n (stepCommand s)

/-- CYCLE would be accepted: no fault, no incomplete instruction (40_sequencer.md R88). -/
def State.accepts (s : State) : Prop := s.fault = none ∧ s.busy = false

/-! ### Invariants -/

/-- The storage is in its canonical form. -/
def MemInv (s : State) : Prop := s.mem.wf = true

/-- Bits 3..0 of F read as 0 (10_state.md R30). -/
def FlagInv (s : State) : Prop := s.f &&& 0x0F = 0

/-- No opcode reaches these operation kinds (42_rotate.md R135, 45_stack.md R155). -/
def Op.reachable : Op → Bool
  | .rotateNormal _ _ => false
  | .push _ => false
  | .pop _ => false
  | .increase _ => true
  | .decrease _ => true
  | .rotateFast _ => true
  | .load _ _ => true
  | .alu _ _ => true
  | .inc16 _ => true
  | .dec16 _ => true
  | .load16 _ _ => true
  | .jr _ => true
  | .jrcc _ _ => true

/-- The operation kinds with two own steps among those an opcode reaches (40_sequencer.md R83). -/
def Op.twoSteps : Op → Bool
  | .inc16 _ => true
  | .dec16 _ => true
  | .jrcc _ _ => true
  | .increase _ => false
  | .decrease _ => false
  | .rotateFast _ => false
  | .rotateNormal _ _ => false
  | .load _ _ => false
  | .alu _ _ => false
  | .load16 _ _ => false
  | .push _ => true
  | .pop _ => true
  | .jr _ => false

/-- An in-flight record as the sequencer makes it (10_state.md R35, 40_sequencer.md R84, R85): a reachable operation, at most two extra
steps, own steps only after the extra steps, at most one own step run before completion and then only of a two-step kind. -/
def InFlight.sound (f : InFlight) : Prop :=
  f.op.reachable = true ∧ f.extraLeft ≤ 2 ∧ (0 < f.k → f.extraLeft = 0) ∧
    (f.done = true → 1 ≤ f.k ∧ f.k ≤ 2) ∧
    (f.done = false → f.k = 0 ∨ (f.k = 1 ∧ f.op.twoSteps = true))

/-- The sequencer's state hangs together: a fault leaves nothing in flight (60_exceptions.md R165, R166), the in-flight record is sound and
the debug view shows its bytes (R181), and the view shows as many bytes as it counts, the count of R69. -/
def SequencerInv (s : State) : Prop :=
  (s.fault ≠ none → s.inflight = none) ∧
  (∀ f, s.inflight = some f → f.sound ∧ ∃ v, s.view = some v ∧ v.bytes = f.imm) ∧
  (∀ v, s.view = some v → v.count = argumentCount v.opcode ∧ v.bytes.length = v.count)

end Sys2Proof.Machine
end

