-- ==== Sys2Proof/Certificates/Slice0/Obligations.lean ====
section
/-! DEFINITION. The statements for the provers. Each names the rules of spec/ it formalises. First the lists of instruction forms the
statements range over, each form with the operands its rule names. The premise `s.mode = .run` says that the CYCLE now executed is
CYCLE(Run): R88 gives CYCLE that argument, and the field that holds it is the model's choice (log entry 5). -/

namespace Sys2Proof.Forms

open Sys2Proof.Machine

/-- LD r,r' (43_loads.md R137): instruction, destination, source. -/
def ldRegReg : List (Instr × Reg × Reg) :=
  [(.ldB_B, .b, .b), (.ldB_C, .b, .c), (.ldB_D, .b, .d), (.ldB_E, .b, .e),
   (.ldB_H, .b, .h), (.ldB_L, .b, .l), (.ldB_A, .b, .a), (.ldC_B, .c, .b),
   (.ldC_C, .c, .c), (.ldC_D, .c, .d), (.ldC_E, .c, .e), (.ldC_H, .c, .h),
   (.ldC_L, .c, .l), (.ldC_A, .c, .a), (.ldD_B, .d, .b), (.ldD_C, .d, .c),
   (.ldD_D, .d, .d), (.ldD_E, .d, .e), (.ldD_H, .d, .h), (.ldD_L, .d, .l),
   (.ldD_A, .d, .a), (.ldE_B, .e, .b), (.ldE_C, .e, .c), (.ldE_D, .e, .d),
   (.ldE_E, .e, .e), (.ldE_H, .e, .h), (.ldE_L, .e, .l), (.ldE_A, .e, .a),
   (.ldH_B, .h, .b), (.ldH_C, .h, .c), (.ldH_D, .h, .d), (.ldH_E, .h, .e),
   (.ldH_H, .h, .h), (.ldH_L, .h, .l), (.ldH_A, .h, .a), (.ldL_B, .l, .b),
   (.ldL_C, .l, .c), (.ldL_D, .l, .d), (.ldL_E, .l, .e), (.ldL_H, .l, .h),
   (.ldL_L, .l, .l), (.ldL_A, .l, .a), (.ldA_B, .a, .b), (.ldA_C, .a, .c),
   (.ldA_D, .a, .d), (.ldA_E, .a, .e), (.ldA_H, .a, .h), (.ldA_L, .a, .l),
   (.ldA_A, .a, .a)]

/-- LD r,(HL) (R138): instruction, destination. -/
def ldRegHL : List (Instr × Reg) :=
  [(.ldB_IndHL, .b), (.ldC_IndHL, .c), (.ldD_IndHL, .d), (.ldE_IndHL, .e),
   (.ldH_IndHL, .h), (.ldL_IndHL, .l), (.ldA_IndHL, .a)]

/-- LD r,d8 (R140): instruction, destination. -/
def ldRegImm (d8 : Byte) : List (Instr × Reg) :=
  [(.ldB_d8 d8, .b), (.ldC_d8 d8, .c), (.ldD_d8 d8, .d), (.ldE_d8 d8, .e),
   (.ldH_d8 d8, .h), (.ldL_d8 d8, .l), (.ldA_d8 d8, .a)]

/-- LD (HL),r and LD (HL),d8 (R139, R141): instruction, source, steps. -/
def stHL (d8 : Byte) : List (Instr × Operand × Nat) :=
  [(.ldIndHL_B, .reg .b, 2), (.ldIndHL_C, .reg .c, 2), (.ldIndHL_D, .reg .d, 2), (.ldIndHL_E, .reg .e, 2),
   (.ldIndHL_H, .reg .h, 2), (.ldIndHL_L, .reg .l, 2), (.ldIndHL_A, .reg .a, 2), (.ldIndHL_d8 d8, .imm d8, 3)]

/-- LD A,(rr) (R146 to R149): instruction, address pair, what the pair is changed by, registers written. -/
def ldAInd : List (Instr × Pair × Word × List Reg) :=
  [(.ldA_IndBC, .bc, 0, [.a]), (.ldA_IndDE, .de, 0, [.a]),
   (.ldA_IndHLInc, .hl, 1, [.a, .h, .l]), (.ldA_IndHLDec, .hl, -1, [.a, .h, .l])]

/-- LD (rr),A (R142 to R145): instruction, address pair, what the pair is changed by, registers written. -/
def stAInd : List (Instr × Pair × Word × List Reg) :=
  [(.ldIndBC_A, .bc, 0, []), (.ldIndDE_A, .de, 0, []),
   (.ldIndHLInc_A, .hl, 1, [.h, .l]), (.ldIndHLDec_A, .hl, -1, [.h, .l])]

/-- LD rr,d16 (R150): instruction, pair. -/
def ldPairImm (d16 : Word) : List (Instr × Pair) :=
  [(.ldBC_d16 d16, .bc), (.ldDE_d16 d16, .de), (.ldHL_d16 d16, .hl), (.ldSP_d16 d16, .sp)]

/-- ADD A,r, ADD A,(HL), ADD A,d8 (41_alu8.md): instruction, right operand, steps. -/
def addForms (d8 : Byte) : List (Instr × Operand × Nat) :=
  [(.addA_B, .reg .b, 1), (.addA_C, .reg .c, 1), (.addA_D, .reg .d, 1), (.addA_E, .reg .e, 1),
   (.addA_H, .reg .h, 1), (.addA_L, .reg .l, 1), (.addA_A, .reg .a, 1), (.addA_IndHL, .at .hl, 2),
   (.addA_d8 d8, .imm d8, 2)]

/-- ADC A,r, ADC A,(HL), ADC A,d8 (41_alu8.md): instruction, right operand, steps. -/
def adcForms (d8 : Byte) : List (Instr × Operand × Nat) :=
  [(.adcA_B, .reg .b, 1), (.adcA_C, .reg .c, 1), (.adcA_D, .reg .d, 1), (.adcA_E, .reg .e, 1),
   (.adcA_H, .reg .h, 1), (.adcA_L, .reg .l, 1), (.adcA_A, .reg .a, 1), (.adcA_IndHL, .at .hl, 2),
   (.adcA_d8 d8, .imm d8, 2)]

/-- SUB A,r, SUB A,(HL), SUB A,d8 (41_alu8.md): instruction, right operand, steps. -/
def subForms (d8 : Byte) : List (Instr × Operand × Nat) :=
  [(.subA_B, .reg .b, 1), (.subA_C, .reg .c, 1), (.subA_D, .reg .d, 1), (.subA_E, .reg .e, 1),
   (.subA_H, .reg .h, 1), (.subA_L, .reg .l, 1), (.subA_A, .reg .a, 1), (.subA_IndHL, .at .hl, 2),
   (.subA_d8 d8, .imm d8, 2)]

/-- SBC A,r, SBC A,(HL), SBC A,d8 (41_alu8.md): instruction, right operand, steps. -/
def sbcForms (d8 : Byte) : List (Instr × Operand × Nat) :=
  [(.sbcA_B, .reg .b, 1), (.sbcA_C, .reg .c, 1), (.sbcA_D, .reg .d, 1), (.sbcA_E, .reg .e, 1),
   (.sbcA_H, .reg .h, 1), (.sbcA_L, .reg .l, 1), (.sbcA_A, .reg .a, 1), (.sbcA_IndHL, .at .hl, 2),
   (.sbcA_d8 d8, .imm d8, 2)]

/-- AND A,r, AND A,(HL), AND A,d8 (41_alu8.md): instruction, right operand, steps. -/
def andForms (d8 : Byte) : List (Instr × Operand × Nat) :=
  [(.andA_B, .reg .b, 1), (.andA_C, .reg .c, 1), (.andA_D, .reg .d, 1), (.andA_E, .reg .e, 1),
   (.andA_H, .reg .h, 1), (.andA_L, .reg .l, 1), (.andA_A, .reg .a, 1), (.andA_IndHL, .at .hl, 2),
   (.andA_d8 d8, .imm d8, 2)]

/-- XOR A,r, XOR A,(HL), XOR A,d8 (41_alu8.md): instruction, right operand, steps. -/
def xorForms (d8 : Byte) : List (Instr × Operand × Nat) :=
  [(.xorA_B, .reg .b, 1), (.xorA_C, .reg .c, 1), (.xorA_D, .reg .d, 1), (.xorA_E, .reg .e, 1),
   (.xorA_H, .reg .h, 1), (.xorA_L, .reg .l, 1), (.xorA_A, .reg .a, 1), (.xorA_IndHL, .at .hl, 2),
   (.xorA_d8 d8, .imm d8, 2)]

/-- OR A,r, OR A,(HL), OR A,d8 (41_alu8.md): instruction, right operand, steps. -/
def orForms (d8 : Byte) : List (Instr × Operand × Nat) :=
  [(.orA_B, .reg .b, 1), (.orA_C, .reg .c, 1), (.orA_D, .reg .d, 1), (.orA_E, .reg .e, 1),
   (.orA_H, .reg .h, 1), (.orA_L, .reg .l, 1), (.orA_A, .reg .a, 1), (.orA_IndHL, .at .hl, 2),
   (.orA_d8 d8, .imm d8, 2)]

/-- CP A,r, CP A,(HL), CP A,d8 (41_alu8.md): instruction, right operand, steps. -/
def cpForms (d8 : Byte) : List (Instr × Operand × Nat) :=
  [(.cpA_B, .reg .b, 1), (.cpA_C, .reg .c, 1), (.cpA_D, .reg .d, 1), (.cpA_E, .reg .e, 1),
   (.cpA_H, .reg .h, 1), (.cpA_L, .reg .l, 1), (.cpA_A, .reg .a, 1), (.cpA_IndHL, .at .hl, 2),
   (.cpA_d8 d8, .imm d8, 2)]

/-- INC r (41_alu8.md R127): instruction, register. -/
def incReg : List (Instr × Reg) :=
  [(.incB, .b), (.incC, .c), (.incD, .d), (.incE, .e),
   (.incH, .h), (.incL, .l), (.incA, .a)]

/-- INC rr (44_inc_dec16.md R153): instruction, pair. -/
def incPair : List (Instr × Pair) :=
  [(.incBC, .bc), (.incDE, .de), (.incHL, .hl), (.incSP, .sp)]

/-- DEC r (41_alu8.md R129): instruction, register. -/
def decReg : List (Instr × Reg) :=
  [(.decB, .b), (.decC, .c), (.decD, .d), (.decE, .e),
   (.decH, .h), (.decL, .l), (.decA, .a)]

/-- DEC rr (44_inc_dec16.md R154): instruction, pair. -/
def decPair : List (Instr × Pair) :=
  [(.decBC, .bc), (.decDE, .de), (.decHL, .hl), (.decSP, .sp)]

/-- JR cc,e8 (46_branch.md R161): instruction, condition. -/
def jrcc (e8 : Byte) : List (Instr × Cond) :=
  [(.jrNZ_e8 e8, .nz), (.jrZ_e8 e8, .z), (.jrNC_e8 e8, .nc), (.jrC_e8 e8, .c)]

/-- Every form that accesses one byte of the storage: instruction, address pair. -/
def memForms (d8 : Byte) : List (Instr × Pair) :=
  [(.ldIndBC_A, .bc), (.ldA_IndBC, .bc), (.ldIndDE_A, .de),
   (.ldA_IndDE, .de), (.ldIndHLInc_A, .hl), (.ldA_IndHLInc, .hl),
   (.ldIndHLDec_A, .hl), (.incIndHL, .hl), (.decIndHL, .hl),
   (.ldIndHL_d8 d8, .hl), (.ldA_IndHLDec, .hl), (.ldB_IndHL, .hl),
   (.ldC_IndHL, .hl), (.ldD_IndHL, .hl), (.ldE_IndHL, .hl),
   (.ldH_IndHL, .hl), (.ldL_IndHL, .hl), (.ldIndHL_B, .hl),
   (.ldIndHL_C, .hl), (.ldIndHL_D, .hl), (.ldIndHL_E, .hl),
   (.ldIndHL_H, .hl), (.ldIndHL_L, .hl), (.ldIndHL_A, .hl),
   (.ldA_IndHL, .hl), (.addA_IndHL, .hl), (.adcA_IndHL, .hl),
   (.subA_IndHL, .hl), (.sbcA_IndHL, .hl), (.andA_IndHL, .hl),
   (.xorA_IndHL, .hl), (.orA_IndHL, .hl), (.cpA_IndHL, .hl)]

/-- JR e8 and JR cc,e8: the explicit jump operations (10_state.md R33). -/
def isJump : Instr → Bool
  | .jr_e8 _ | .jrNZ_e8 _ | .jrZ_e8 _ | .jrNC_e8 _ | .jrC_e8 _ => true
  | _ => false

/-- The instructions that reach SP (10_state.md R27). -/
def writesSp : Instr → Bool
  | .ldSP_d16 _ | .incSP | .decSP => true
  | _ => false

/-- The instructions that write memory. -/
def isStore : Instr → Bool
  | .ldIndBC_A | .ldIndDE_A | .ldIndHLInc_A | .ldIndHLDec_A | .incIndHL | .decIndHL => true
  | .ldIndHL_d8 _ | .ldIndHL_B | .ldIndHL_C | .ldIndHL_D | .ldIndHL_E | .ldIndHL_H => true
  | .ldIndHL_L | .ldIndHL_A => true
  | _ => false

/-- The instructions that write F (10_state.md R31). -/
def writesFlags : Instr → Bool
  | .incB | .decB | .rlca | .incC | .decC | .rrca => true
  | .incD | .decD | .incE | .decE | .incH | .decH => true
  | .incL | .decL | .incIndHL | .decIndHL | .incA | .decA => true
  | .addA_B | .addA_C | .addA_D | .addA_E | .addA_H | .addA_L => true
  | .addA_IndHL | .addA_A | .adcA_B | .adcA_C | .adcA_D | .adcA_E => true
  | .adcA_H | .adcA_L | .adcA_IndHL | .adcA_A | .subA_B | .subA_C => true
  | .subA_D | .subA_E | .subA_H | .subA_L | .subA_IndHL | .subA_A => true
  | .sbcA_B | .sbcA_C | .sbcA_D | .sbcA_E | .sbcA_H | .sbcA_L => true
  | .sbcA_IndHL | .sbcA_A | .andA_B | .andA_C | .andA_D | .andA_E => true
  | .andA_H | .andA_L | .andA_IndHL | .andA_A | .xorA_B | .xorA_C => true
  | .xorA_D | .xorA_E | .xorA_H | .xorA_L | .xorA_IndHL | .xorA_A => true
  | .orA_B | .orA_C | .orA_D | .orA_E | .orA_H | .orA_L => true
  | .orA_IndHL | .orA_A | .cpA_B | .cpA_C | .cpA_D | .cpA_E => true
  | .cpA_H | .cpA_L | .cpA_IndHL | .cpA_A | .addA_d8 _ | .adcA_d8 _ => true
  | .subA_d8 _ | .sbcA_d8 _ | .andA_d8 _ | .xorA_d8 _ | .orA_d8 _ | .cpA_d8 _ => true
  | _ => false

/-- The two own steps of a two-step operation with no extra step, if neither faults. -/
def twoOwnSteps (op : Op) (s : State) : Option State :=
  match ownStep (startInFlight op [] 0) s with
  | .error _ => none
  | .ok (t, f) =>
    match ownStep { f with k := 1 } t with
    | .error _ => none
    | .ok (u, _) => some u

end Sys2Proof.Forms

open Sys2Proof Sys2Proof.Machine Sys2Proof.Forms

/-! ### Register pairs, flags, addressing -/

/-- 10_state.md R24, 20_memory.md R47: a join is high byte times 256 plus low byte, and each pair reads the join of its two
registers as they are in the state, the first-named one high. -/
def Obligations.PairReadJoinsItsTwoRegisters : Prop :=
  (∀ hi lo : Byte, (joinBytes hi lo).toNat = hi.toNat * 256 + lo.toNat) ∧
  (pairOfIndex 0 = .bc ∧ pairOfIndex 1 = .de ∧ pairOfIndex 2 = .hl ∧ pairOfIndex 3 = .sp) ∧
  ∀ s : State, readPair .bc s = joinBytes s.b s.c ∧ readPair .de s = joinBytes s.d s.e ∧
    readPair .hl s = joinBytes s.h s.l ∧ readPair .sp s = joinBytes s.sph s.spl

/-- 10_state.md R26, R22: a pair reads back the value written and every other register keeps its own; a write of one byte of a pair
changes that byte alone. -/
def Obligations.PairWriteSetsBothBytesAndNothingElse : Prop :=
  ∀ (p : Pair) (v : Word) (w : Byte) (s : State),
    readPair p (writePair p v s) = v ∧ KeepsRegsBut (pairRegs p) s (writePair p v s) ∧
    readPair p (setPairLow p w s) = joinBytes (pairHigh p s) w ∧
    readPair p (setPairHigh p w s) = joinBytes w (pairLow p s)

/-- 10_state.md R28, R29: Z, N, H and C stand in bits 7, 6, 5 and 4 of F (the spec's decision D5); `GetFlag` reads a flag's bit, `SetFlag` sets or
clears exactly that bit, the seven others untouched, and no other register. -/
def Obligations.SetFlagWritesOneBit : Prop :=
  (flagBit .z = 7 ∧ flagBit .n = 6 ∧ flagBit .h = 5 ∧ flagBit .c = 4) ∧
  (∀ s : State, getFlag .z s = s.f.getLsbD 7 ∧ getFlag .n s = s.f.getLsbD 6 ∧
    getFlag .h s = s.f.getLsbD 5 ∧ getFlag .c s = s.f.getLsbD 4) ∧
  ∀ (fl : Flag) (on : Bool) (s : State),
    (∀ k : Nat, (setFlag fl on s).f.getLsbD k = if k = flagBit fl then on else s.f.getLsbD k) ∧
    KeepsRegsBut [.f] s (setFlag fl on s) ∧ KeepsMemory s (setFlag fl on s) ∧ (setFlag fl on s).pc = s.pc

/-- 20_memory.md R48: the address and the pair after each mode of `Dereference`; no flag is written. PostDec is the convention of
90_conflicts.md C3. -/
def Obligations.DereferenceModes : Prop :=
  ∀ (p : Pair) (s : State),
    (∀ post : PostOp, (dereference p post s).1 = (if post = .preDec then readPair p s - 1 else readPair p s)) ∧
    readPair p (dereference p .keep s).2 = readPair p s ∧
    readPair p (dereference p .postInc s).2 = readPair p s + 1 ∧
    readPair p (dereference p .postDec s).2 = readPair p s - 1 ∧
    readPair p (dereference p .preDec s).2 = readPair p s - 1 ∧
    ∀ post : PostOp, KeepsRegsBut (pairRegs p) s (dereference p post s).2 ∧ KeepsMemory s (dereference p post s).2

/-! ### Decoding -/

/-- 30_encoding.md R71 with the extra steps of R85: in block 0 every opcode binds what the region rules give, or is unimplemented. -/
def Obligations.Block0BindsByRegionRules : Prop :=
  ∀ (o : Byte) (operands : List Byte), fieldX o = 0 → operands.length = argumentCount o →
    match regionBlock0 o operands with
    | some b => BindsTo o operands b.op b.extra
    | none => decodeOpcode o operands = .unimplemented o operands

/-- 30_encoding.md R72: in block 1 every opcode but 0x76 is a load from slot `z` to slot `y`, and 0x76 is unimplemented. -/
def Obligations.Block1BindsSlotLoads : Prop :=
  ∀ o : Byte, fieldX o = 1 →
    (4 ≤ upperNibble o ∧ upperNibble o ≤ 7 ∧
      (o.toNat - lowerNibble o % 8) / 8 % 8 = fieldY o ∧ lowerNibble o % 8 = fieldZ o) ∧
    if fieldY o = 6 ∧ fieldZ o = 6 then o = 0x76 ∧ decodeOpcode o [] = .unimplemented o []
    else ∃ extra, BindsTo o [] (.load (.slot (slotOfIndex (fieldY o))) (.loc (.slot (slotOfIndex (fieldZ o))))) extra

/-- 30_encoding.md R73: in block 2 every opcode is the ALU kind `y` on A and slot `z`. -/
def Obligations.Block2BindsAluOnSlots : Prop :=
  ∀ o : Byte, fieldX o = 2 →
    (8 ≤ upperNibble o ∧ upperNibble o ≤ 0xB ∧
      (o.toNat - lowerNibble o % 8) / 8 % 8 = fieldY o ∧ lowerNibble o % 8 = fieldZ o) ∧
    ∃ extra, BindsTo o [] (.alu (aluKindOfIndex (fieldY o)) (.loc (.slot (slotOfIndex (fieldZ o))))) extra

/-- 30_encoding.md R74: the opcodes from 0xC6 up with lower nibble 6 modulo 8 are the eight listed ones, and each is the ALU kind
`(opcode - 0xC6) >> 3`, which is `y`, on A and the fetched immediate byte. -/
def Obligations.AluImmediateRegionBinds : Prop :=
  ∀ (o d8 : Byte), 0xC6 ≤ o.toNat → lowerNibble o % 8 = 6 →
    o ∈ ([0xC6, 0xCE, 0xD6, 0xDE, 0xE6, 0xEE, 0xF6, 0xFE] : List Byte) ∧ (o.toNat - 0xC6) / 8 = fieldY o ∧
    ∃ extra, BindsTo o [d8] (.alu (aluKindOfIndex (fieldY o)) (.imm d8)) extra

/-- 30_encoding.md R75, R78: an opcode decodes to unimplemented exactly if it is one of the 70 listed. 0x00 and 0x10 are among them by the
spec's decision D10. -/
def Obligations.UnimplementedIsExactlyTheSeventy : Prop :=
  unimplementedOpcodes.length = 70 ∧ unimplementedOpcodes.Nodup ∧
  ∀ (o : Byte) (operands : List Byte),
    (∃ p ops, decodeOpcode o operands = .unimplemented p ops) ↔ o ∈ unimplementedOpcodes

/-- 30_encoding.md R60, R68, R70: decoding the bytes of a well-formed instruction gives it back, with the bytes after it. -/
def Obligations.DecodeOfEncodeIsIdentity : Prop :=
  ∀ (i : Instr) (rest : List Byte), i.wellFormed = true → decode (encode i ++ rest) = .ok (i, rest)

/-- 30_encoding.md R60, R69, R70: every byte string that decodes is the encoding of the well-formed instruction it decodes to. -/
def Obligations.EncodeOfDecodeIsIdentity : Prop :=
  ∀ (bytes rest : List Byte) (i : Instr), decode bytes = .ok (i, rest) → i.wellFormed = true ∧ encode i ++ rest = bytes

/-- Words written out from the encodings of 41_alu8.md to 46_branch.md decode to the instructions they stand for (30_encoding.md R71 to R74). -/
def Obligations.SampleWordsDecode : Prop :=
  decode [0x21, 0x34, 0x12] = .ok (.ldHL_d16 0x1234, []) ∧ decode [0x78] = .ok (.ldA_B, []) ∧
  decode [0x32] = .ok (.ldIndHLDec_A, []) ∧ decode [0x8B] = .ok (.adcA_E, []) ∧ decode [0xFE, 0x3C] = .ok (.cpA_d8 0x3C, []) ∧
  decode [0x35] = .ok (.decIndHL, []) ∧ decode [0x0F] = .ok (.rrca, []) ∧ decode [0x3B] = .ok (.decSP, []) ∧
  decode [0x30, 0x04] = .ok (.jrNC_e8 0x04, []) ∧ decode [0xCB, 0x11] = .ok (.unimplemented 0xCB [0x11], [])

/-! ### Fetch, commands, sequencer -/

/-- 40_sequencer.md R86, R88: with every byte inside the storage the fetch reads the opcode at PC and its operand bytes after it, leaves PC
past them and writes the view; the first byte outside ends it, PC past the bytes read and nothing else changed (all R86). An accepted CYCLE (R88) passes
opcode and operand bytes to the decoder and runs its instruction; that it does so with its argument in the field `mode` is the model's
choice (log entry 5). -/
def Obligations.FetchReadsOpcodeAndOperands : Prop :=
  ∀ s : State, ∀ o : Byte, o = s.mem.read s.pc.toNat →
    (fetchInRange s (argumentCount o) →
      fetch s = .ok (o, (bytesAtPc s).tail.take (argumentCount o),
        { s with pc := s.pc + 1 + BitVec.ofNat 16 (argumentCount o)
                 view := some ⟨o, argumentCount o, (bytesAtPc s).tail.take (argumentCount o)⟩ })) ∧
    (s.memSize ≤ s.pc.toNat → fetch s = .error (.outOfRange s.pc, s)) ∧
    (fetchInRange s 0 → 1 ≤ argumentCount o → s.memSize ≤ (s.pc + 1).toNat →
      fetch s = .error (.outOfRange (s.pc + 1), { s with pc := s.pc + 1 })) ∧
    (fetchInRange s 1 → argumentCount o = 2 → s.memSize ≤ (s.pc + 2).toNat →
      fetch s = .error (.outOfRange (s.pc + 2), { s with pc := s.pc + 2 })) ∧
    (s.accepts → fetchInRange s (argumentCount o) → ∀ m : CycleMode,
      cycleCommand m s = exec (decodeOpcode o ((bytesAtPc s).tail.take (argumentCount o)))
        { s with pc := s.pc + 1 + BitVec.ofNat 16 (argumentCount o)
                 view := some ⟨o, argumentCount o, (bytesAtPc s).tail.take (argumentCount o)⟩
                 mode := m })

/-- 40_sequencer.md R86, R88: when CYCLE is the host's next move and is accepted, and the bytes at PC decode to `i`, the step is `exec` of `i` on the
state with PC past the instruction, the view written, the move taken off the list and the mode of the command. That moves are a list and the mode a
field is the model's choice (log entries 1 and 5). -/
def Obligations.StepRunsDecodedInstruction : Prop :=
  ∀ (s : State) (m : CycleMode) (rest : List HostMove) (i : Instr) (tail : List Byte),
    s.accepts → nextMove s = (.cycle m, rest) → decode (bytesAtPc s) = .ok (i, tail) →
    fetchInRange s (argumentCount (opcode i)) →
      step s = exec i
        { s with
          host := rest
          pc := s.pc + 1 + BitVec.ofNat 16 (argumentCount (opcode i))
          view := some ⟨opcode i, argumentCount (opcode i), operandBytes i⟩
          mode := m }

/-- 40_sequencer.md R89, 60_exceptions.md R171: the cases of STEP: declined on a faulted core; a no-op that reports completion with nothing to
step; an extra step, which only counts down and never reports completion; an own step, whose effects and completion are those of the
operation's rule; an own step that faults. -/
def Obligations.StepCommandCases : Prop :=
  ∀ s : State,
    (s.fault ≠ none → stepCommand s = { s with result := some (.refused .faulted) }) ∧
    (s.fault = none → s.busy = false → stepCommand s = { s with result := some (.stepped true) }) ∧
    ∀ f : InFlight, s.fault = none → s.inflight = some f → f.done = false →
      (∀ n, f.extraLeft = n + 1 →
        stepCommand s = { s with inflight := some { f with extraLeft := n }, result := some (.stepped false) }) ∧
      (∀ t g, f.extraLeft = 0 → ownStep f s = .ok (t, g) →
        stepCommand s = { t with inflight := some { g with k := f.k + 1 }, result := some (.stepped g.done) }) ∧
      (∀ c, f.extraLeft = 0 → ownStep f s = .error c → stepCommand s = raiseFault c s)

/-- 40_sequencer.md R84: extra steps come first, and one changes no register, flag, byte or PC; that it reads nothing says that on a state with
any other registers, PC and storage it does the same and leaves those. -/
def Obligations.ExtraStepReadsAndWritesNothing : Prop :=
  ∀ (s : State) (f : InFlight) (n : Nat), s.fault = none → s.inflight = some f → f.done = false → f.extraLeft = n + 1 →
    KeepsRegsBut [] s (stepCommand s) ∧ KeepsFlagsBut [] s (stepCommand s) ∧ KeepsMemory s (stepCommand s) ∧
    (stepCommand s).pc = s.pc ∧ (stepCommand s).inflight = some { f with extraLeft := n } ∧
    ∀ u : State, u.fault = none → u.inflight = some f →
      stepCommand u = { u with inflight := (stepCommand s).inflight, result := (stepCommand s).result }

/-- 40_sequencer.md R93, from R88 and R89: CYCLE(Run) reaches the state that CYCLE(Hand) and then STEP until it reports completion reach, in the
same number of steps, which is at most three; a fault of the fetch or the decode is the same in both modes, and a fault of a step
comes at the same step. The field `mode`, in which the two ends differ, is the model's choice (log entry 5) and no state of the spec. -/
def Obligations.RunIsHandThenSteps : Prop :=
  ∀ s t r : State, s.accepts → cycleCommand .hand s = .next t → cycleCommand .run s = .next r →
    (t.fault ≠ none → r = { t with mode := r.mode }) ∧
    (t.fault = none →
      ∃ n, 1 ≤ n ∧ n ≤ 3 ∧ (∀ m, 1 ≤ m → m < n → (stepTimes m t).result = some (.stepped false)) ∧
        (((stepTimes n t).result = some (.stepped true) ∧
            r = { stepTimes n t with mode := .run, result := some (.completed n) }) ∨
          ∃ c, (stepTimes n t).result = some (.fault c) ∧ r = { stepTimes n t with mode := .run }))

/-- 20_memory.md R58 (a), 40_sequencer.md R86, R92: no step changes the operation or the immediates held in flight, whatever it stores. -/
def Obligations.StepKeepsHeldInstruction : Prop :=
  ∀ (s : State) (f g : InFlight), s.inflight = some f → (stepCommand s).inflight = some g → g.op = f.op ∧ g.imm = f.imm

/-- 40_sequencer.md R81, R83, R85: in Run mode every instruction ends, completed after one to three steps with nothing left to step, or in a fault with
nothing in flight. -/
def Obligations.RunEndsWithinThreeSteps : Prop :=
  ∀ (i : Instr) (s : State), s.mode = .run →
    ∃ t, exec i s = .next t ∧
      ((∃ n, 1 ≤ n ∧ n ≤ 3 ∧ t.result = some (.completed n) ∧ t.busy = false ∧ t.fault = s.fault) ∨
        ∃ c, t.result = some (.fault c) ∧ t.fault = some c ∧ t.inflight = none)

/-- 42_rotate.md R135, 45_stack.md R155: no instruction puts the normal rotate, push or pop in flight (that the normal rotate is a kind is decision D33). -/
def Obligations.NoInstructionReachesPushPopNormalRotate : Prop :=
  ∀ (i : Instr) (s t : State) (f : InFlight), exec i s = .next t → t.inflight = some f →
    f.op.reachable = true ∨ s.inflight = some f

/-! ### Faults, refusals, reset, owner -/

/-- 60_exceptions.md R165: on an unimplemented opcode PC is past the opcode and its operand bytes, the view shows them, nothing is in flight, the fault
register and the result say `Unimplemented(o)`, and no register, flag or byte changes. The meaning alone changes the fault register, the
in-flight record and the result. The numbers of operand bytes are the spec's decision D25. The second clause goes through `step`: that the host's moves
are a list, and that an empty one counts as CYCLE(Run), is the model's choice (log entry 1). -/
def Obligations.UnimplementedOpcodeTakesItsFault : Prop :=
  (∀ (o : Byte) (operands : List Byte) (s : State), exec (.unimplemented o operands) s =
    .next { s with fault := some (.unimplemented o), inflight := none, result := some (.fault (.unimplemented o)) }) ∧
  ∀ (s : State) (m : CycleMode) (rest : List HostMove) (o : Byte),
    s.accepts → nextMove s = (.cycle m, rest) → o = s.mem.read s.pc.toNat → o ∈ unimplementedOpcodes →
    fetchInRange s (argumentCount o) →
      ∃ t, step s = .next t ∧ t.pc = s.pc + 1 + BitVec.ofNat 16 (argumentCount o) ∧
        t.view = some ⟨o, argumentCount o, (bytesAtPc s).tail.take (argumentCount o)⟩ ∧ t.inflight = none ∧
        t.fault = some (.unimplemented o) ∧ t.result = some (.fault (.unimplemented o)) ∧
        KeepsRegsBut [] s t ∧ KeepsMemory s t

/-- 60_exceptions.md R166: a fetch access outside the storage leaves PC past the bytes read and the old view, a step's access outside it leaves
that step without effect; both set `OutOfRange(a)` for an address outside the storage, leave nothing in flight and answer the fault. With
65536 bytes neither occurs. -/
def Obligations.OutOfRangeAccessTakesItsFault : Prop :=
  (∀ (m : CycleMode) (s s1 : State) (c : FaultCause), s.accepts → fetch s = .error (c, s1) →
    ∃ a : Word, c = .outOfRange a ∧ s.memSize ≤ a.toNat ∧ s1 = { s with pc := a } ∧
      cycleCommand m s = .next
        { s with pc := a, fault := some (.outOfRange a), inflight := none, result := some (.fault (.outOfRange a)) }) ∧
  (∀ (s : State) (f : InFlight) (c : FaultCause), s.fault = none → s.inflight = some f → f.done = false →
    f.extraLeft = 0 → ownStep f s = .error c →
    ∃ a : Word, c = .outOfRange a ∧ s.memSize ≤ a.toNat ∧
      stepCommand s = { s with fault := some (.outOfRange a), inflight := none, result := some (.fault (.outOfRange a)) }) ∧
  ∀ s : State, s.memSize = 65536 →
    (∀ c s1, fetch s ≠ .error (c, s1)) ∧ ∀ f c, ownStep f s ≠ .error c

/-- 60_exceptions.md R166, R168 and the rules of the forms: an instruction whose data access is outside the storage takes the fault of its address
and changes nothing else: no register, no flag, no byte, no pair; PC stays at pc_post. -/
def Obligations.DataAccessOutOfRangeChangesNothingElse : Prop :=
  ∀ (d8 : Byte) (e : Instr × Pair), e ∈ memForms d8 → ∀ s : State, s.mode = .run →
    s.memSize ≤ (readPair e.2 s).toNat →
      exec e.1 s = .next { s with
        fault := some (.outOfRange (readPair e.2 s))
        inflight := none
        result := some (.fault (.outOfRange (readPair e.2 s))) }

/-- 60_exceptions.md R167, R169, R170: a faulted core declines every CYCLE and STEP, a busy one every CYCLE, and only the result changes; the faulted
refusal comes before the busy one. The rules rest on the spec's decisions D20 and D24. -/
def Obligations.FaultedAndBusyCommandsAreDeclined : Prop :=
  ∀ (s : State) (m : CycleMode),
    (s.fault ≠ none → cycleCommand m s = .next { s with result := some (.refused .faulted) } ∧
      stepCommand s = { s with result := some (.refused .faulted) }) ∧
    (s.fault = none → s.busy = true → cycleCommand m s = .next { s with result := some (.refused .busy) })

/-- 70_reset_and_hazards.md R182, 10_state.md R39: RESET, in every state, a faulted one too, leaves registers, flags and PC zero, nothing in flight, no fault,
an empty view and the result Ok, and changes no byte of memory. The last three zero states are the spec's decision D35; that the size of the storage
and the further moves stay is the model's choice (log entries 1 and 4). -/
def Obligations.ResetConstructsTheCore : Prop :=
  ∀ (s : State) (rest : List HostMove), s.host = .reset :: rest →
    ∃ t, step s = .next t ∧ (∀ r : Reg, regValue r t = 0) ∧ t.pc = 0 ∧ (∀ fl : Flag, getFlag fl t = false) ∧
      (∀ p : Pair, readPair p t = 0) ∧ t.inflight = none ∧ t.fault = none ∧ t.view = none ∧ t.result = some .ok ∧
      t.mem = s.mem ∧ t.memSize = s.memSize ∧ t.host = rest

/-- 20_memory.md R55, 70_reset_and_hazards.md R186 (b), by log entries 1 and 6: the owner's write changes one byte at an instruction boundary; inside an
instruction, and outside the storage, the model stops. -/
def Obligations.OwnerWritesOnlyAtBoundary : Prop :=
  ∀ (s : State) (a : Word) (v : Byte) (rest : List HostMove), s.host = .ownerWrite a v :: rest →
    (s.busy = true → step s = .fault .ownerMidInstruction) ∧
    (s.busy = false → s.memSize ≤ a.toNat → step s = .fault .ownerOutsideStorage) ∧
    (s.busy = false → a.toNat < s.memSize → MemInv s →
      ∃ t, step s = .next t ∧ t.mem.read a.toNat = v ∧ KeepsMemoryBut a.toNat s t ∧ KeepsRegsBut [] s t ∧ t.pc = s.pc ∧
        t.inflight = s.inflight ∧ t.fault = s.fault ∧ t.view = s.view ∧ t.result = s.result ∧ t.host = rest)

/-- 60_exceptions.md R163, R164, R181: what the host sees: the debug port shows every register, the pair SP joined, PC and the view, and the codes
of the fault causes and of the results are those of the tables (decisions D21, D22, D32). -/
def Obligations.HostSeesPortAndCodes : Prop :=
  (∀ s : State, (debugPort s).sp.toNat = s.sph.toNat * 256 + s.spl.toNat ∧ (debugPort s).pc = s.pc ∧
    (debugPort s).view = s.view ∧
    [(debugPort s).a, (debugPort s).f, (debugPort s).b, (debugPort s).c, (debugPort s).d, (debugPort s).e,
      (debugPort s).h, (debugPort s).l] = [s.a, s.f, s.b, s.c, s.d, s.e, s.h, s.l]) ∧
  (∀ o : Byte, faultCode (.unimplemented o) = 1 ∧ resultCode (.fault (.unimplemented o)) = 4) ∧
  (∀ a : Word, faultCode (.outOfRange a) = 2 ∧ resultCode (.fault (.outOfRange a)) = 5) ∧
  (∀ n : Nat, resultCode (.completed n) = 0) ∧ (∀ v, resultCode (.decoded v) = 1) ∧
  resultCode (.stepped false) = 2 ∧ resultCode (.stepped true) = 3 ∧
  resultCode (.refused .busy) = 6 ∧ resultCode (.refused .faulted) = 7 ∧ resultCode .ok = 8

/-! ### Invariants -/

/-- The reset state meets the invariants (10_state.md R30, R39). -/
def Obligations.ResetMeetsInvariants : Prop :=
  MemInv State.reset ∧ FlagInv State.reset ∧ SequencerInv State.reset ∧ State.reset.memSize = 65536

/-- Every step keeps the storage in its canonical form (20_memory.md R41; the form is the model's, log entry 3). -/
def Obligations.StepKeepsMemoryCanonical : Prop :=
  ∀ s t : State, MemInv s → step s = .next t → MemInv t

/-- 10_state.md R30: no step of the machine makes a bit of F that holds no flag nonzero. -/
def Obligations.StepKeepsUnusedFlagBitsZero : Prop :=
  ∀ s t : State, FlagInv s → step s = .next t → FlagInv t

/-- 10_state.md R35, R37, 60_exceptions.md R165, R166, R181: every step keeps the sequencer's state sound: a fault leaves nothing in flight, the
record in flight is one the sequencer makes of a reachable operation, and the debug view shows its bytes. -/
def Obligations.StepKeepsSequencerSound : Prop :=
  ∀ s t : State, SequencerInv s → step s = .next t → SequencerInv t

/-- 20_memory.md R43, 60_exceptions.md R166: on a storage of 65536 bytes no step raises `OutOfRange`. That no step changes the size is no rule of the
spec but the model's choice (log entry 4): R40 lets the owner resize the storage. -/
def Obligations.FullStorageNeverFaultsOutOfRange : Prop :=
  ∀ s t : State, s.memSize = 65536 → (∀ a, s.fault ≠ some (.outOfRange a)) → step s = .next t →
    t.memSize = 65536 ∧ ∀ a, t.fault ≠ some (.outOfRange a)

/-! ### Which instructions write what -/

/-- 10_state.md R33: during execution only the jump instructions write PC. -/
def Obligations.OnlyJumpsWritePc : Prop :=
  ∀ (i : Instr) (s t : State), exec i s = .next t → isJump i = false → t.pc = s.pc

/-- 10_state.md R23, R27: only LD SP,d16, INC SP and DEC SP write SP. -/
def Obligations.OnlySpInstructionsWriteSp : Prop :=
  ∀ (i : Instr) (s t : State), exec i s = .next t → writesSp i = false → t.sph = s.sph ∧ t.spl = s.spl

/-- 43_loads.md, 41_alu8.md R128, R130: only the loads to memory, INC (HL) and DEC (HL) write memory. -/
def Obligations.OnlyStoresWriteMemory : Prop :=
  ∀ (i : Instr) (s t : State), exec i s = .next t → isStore i = false → t.mem = s.mem

/-- 10_state.md R31: loads, INC rr, DEC rr, JR, JR cc and unimplemented opcodes leave F unchanged. -/
def Obligations.OnlyFlagInstructionsWriteF : Prop :=
  ∀ (i : Instr) (s t : State), exec i s = .next t → writesFlags i = false → t.f = s.f

/-! ### Loads -/

/-- 43_loads.md R136, R137: LD r,r' copies the source into the destination in one step; no flag (decision D17) and nothing else changes. -/
def Obligations.LoadRegisterFromRegister : Prop :=
  ∀ e ∈ ldRegReg, ∀ s : State, s.mode = .run →
    ∃ t, exec e.1 s = .next t ∧ regValue e.2.1 t = regValue e.2.2 s ∧ KeepsRegsBut [e.2.1] s t ∧ CompletedNoStore 1 s t

/-- 43_loads.md R136, R138: LD r,(HL) reads the byte at the old HL in two steps; no flag (decision D17). -/
def Obligations.LoadRegisterFromHL : Prop :=
  ∀ e ∈ ldRegHL, ∀ s : State, s.mode = .run → (readPair .hl s).toNat < s.memSize →
    ∃ t, exec e.1 s = .next t ∧ regValue e.2 t = s.mem.read (readPair .hl s).toNat ∧ KeepsRegsBut [e.2] s t ∧
      CompletedNoStore 2 s t

/-- 43_loads.md R136, R140: LD r,d8 writes the immediate byte in two steps (decision D18); no flag, Z among them (decision D17). -/
def Obligations.LoadRegisterImmediate : Prop :=
  ∀ (d8 : Byte), ∀ e ∈ ldRegImm d8, ∀ s : State, s.mode = .run →
    ∃ t, exec e.1 s = .next t ∧ regValue e.2 t = d8 ∧ KeepsRegsBut [e.2] s t ∧ CompletedNoStore 2 s t

/-- 43_loads.md R136, R139, R141: LD (HL),r and LD (HL),d8 store the operand, as it is before the step, at HL, and change no
register, no flag (decision D17) and no other byte; LD (HL),d8 takes three steps by decision D18. -/
def Obligations.StoreToHL : Prop :=
  ∀ (d8 : Byte), ∀ e ∈ stHL d8, ∀ s : State, s.mode = .run → MemInv s → (readPair .hl s).toNat < s.memSize →
    ∃ t, exec e.1 s = .next t ∧ t.mem.read (readPair .hl s).toNat = e.2.1.value s ∧
      KeepsMemoryBut (readPair .hl s).toNat s t ∧ KeepsRegsBut [] s t ∧ t.pc = s.pc ∧ CompletedIn e.2.2 s t

/-- 43_loads.md R146 to R149: LD A,(rr) reads the byte at the old pair; (HL+) and (HL-) then change HL by one modulo 2^16 (decisions
D7, D8; two steps by decision D18; no flag by decision D17). -/
def Obligations.LoadAccumulatorIndirect : Prop :=
  ∀ e ∈ ldAInd, ∀ s : State, s.mode = .run → (readPair e.2.1 s).toNat < s.memSize →
    ∃ t, exec e.1 s = .next t ∧ t.a = s.mem.read (readPair e.2.1 s).toNat ∧
      readPair e.2.1 t = readPair e.2.1 s + e.2.2.1 ∧ KeepsRegsBut e.2.2.2 s t ∧ CompletedNoStore 2 s t

/-- 43_loads.md R142 to R145: LD (rr),A stores A at the old pair; (HL+) and (HL-) then change HL by one modulo 2^16 (decisions
D7, D8; two steps by decision D18; no flag by decision D17). -/
def Obligations.StoreAccumulatorIndirect : Prop :=
  ∀ e ∈ stAInd, ∀ s : State, s.mode = .run → MemInv s → (readPair e.2.1 s).toNat < s.memSize →
    ∃ t, exec e.1 s = .next t ∧ t.mem.read (readPair e.2.1 s).toNat = s.a ∧
      KeepsMemoryBut (readPair e.2.1 s).toNat s t ∧ readPair e.2.1 t = readPair e.2.1 s + e.2.2.1 ∧
      KeepsRegsBut e.2.2.2 s t ∧ t.pc = s.pc ∧ CompletedIn 2 s t

/-- 43_loads.md R150: LD rr,d16 writes both bytes of the pair in three steps (decisions D18, D36); no flag (decision D17). -/
def Obligations.LoadPairImmediate : Prop :=
  ∀ (d16 : Word), ∀ e ∈ ldPairImm d16, ∀ s : State, s.mode = .run →
    ∃ t, exec e.1 s = .next t ∧ readPair e.2 t = d16 ∧ KeepsRegsBut (pairRegs e.2) s t ∧ CompletedNoStore 3 s t

/-! ### 8-bit ALU -/

/-- 41_alu8.md R95, R103, R104, R105: ADD adds the operand to A modulo 256; Z on a zero result, N cleared, H and C the carries out of bits 3 and
7; each form has its encoding and steps; (HL) outside the storage faults and writes nothing. -/
def Obligations.AddAccumulator : Prop :=
  ∀ d8 : Byte,
    (([0x80, 0x81, 0x82, 0x83, 0x84, 0x85, 0x86, 0x87] : List Byte).map (fun o => decode [o]) =
        [.ok (.addA_B, []), .ok (.addA_C, []), .ok (.addA_D, []), .ok (.addA_E, []), .ok (.addA_H, []),
          .ok (.addA_L, []), .ok (.addA_IndHL, []), .ok (.addA_A, [])] ∧
      decode [0xC6, d8] = .ok (.addA_d8 d8, [])) ∧
    ∀ e ∈ addForms d8,
    ∀ s : State, s.mode = .run →
      (e.2.1.inRange s →
        ∃ t, exec e.1 s = .next t ∧ t.a = s.a + e.2.1.value s ∧
          FlagsAre (s.a + e.2.1.value s == 0) false
            (decide (15 < s.a.toNat % 16 + (e.2.1.value s).toNat % 16))
            (decide (255 < s.a.toNat + (e.2.1.value s).toNat)) t ∧ AluFrame e.2.2 s t) ∧
      (e.2.1 = .at .hl → s.memSize ≤ (readPair .hl s).toNat →
        exec e.1 s = .next { s with
          fault := some (.outOfRange (readPair .hl s))
          inflight := none
          result := some (.fault (.outOfRange (readPair .hl s))) })

/-- 41_alu8.md R96, R106 to R108: ADC adds the operand and the carry flag, which counts in H and C (decision D15). -/
def Obligations.AddWithCarryAccumulator : Prop :=
  ∀ (d8 : Byte), ∀ e ∈ adcForms d8, ∀ s : State, s.mode = .run → e.2.1.inRange s →
    ∃ t, exec e.1 s = .next t ∧ t.a = s.a + e.2.1.value s + BitVec.ofNat 8 (getFlag .c s).toNat ∧
      FlagsAre (s.a + e.2.1.value s + BitVec.ofNat 8 (getFlag .c s).toNat == 0) false
        (decide (15 < s.a.toNat % 16 + (e.2.1.value s).toNat % 16 + (getFlag .c s).toNat))
        (decide (255 < s.a.toNat + (e.2.1.value s).toNat + (getFlag .c s).toNat)) t ∧ AluFrame e.2.2 s t

/-- 41_alu8.md R97, R109 to R111: SUB subtracts the operand modulo 256; N set, H and C the borrows out of bits 4 and 8. -/
def Obligations.SubtractAccumulator : Prop :=
  ∀ (d8 : Byte), ∀ e ∈ subForms d8, ∀ s : State, s.mode = .run → e.2.1.inRange s →
    ∃ t, exec e.1 s = .next t ∧ t.a = s.a - e.2.1.value s ∧
      FlagsAre (s.a == e.2.1.value s) true (decide (s.a.toNat % 16 < (e.2.1.value s).toNat % 16))
        (decide (s.a.toNat < (e.2.1.value s).toNat)) t ∧ AluFrame e.2.2 s t

/-- 41_alu8.md R98, R112 to R114: SBC subtracts the operand and the carry flag, which counts in H and C (decision D15). -/
def Obligations.SubtractWithCarryAccumulator : Prop :=
  ∀ (d8 : Byte), ∀ e ∈ sbcForms d8, ∀ s : State, s.mode = .run → e.2.1.inRange s →
    ∃ t, exec e.1 s = .next t ∧ t.a = s.a - e.2.1.value s - BitVec.ofNat 8 (getFlag .c s).toNat ∧
      FlagsAre (s.a - e.2.1.value s - BitVec.ofNat 8 (getFlag .c s).toNat == 0) true
        (decide (s.a.toNat % 16 < (e.2.1.value s).toNat % 16 + (getFlag .c s).toNat))
        (decide (s.a.toNat < (e.2.1.value s).toNat + (getFlag .c s).toNat)) t ∧ AluFrame e.2.2 s t

/-- 41_alu8.md R99, R115 to R117: AND; H set and C cleared; Z and N by decision D14. -/
def Obligations.AndAccumulator : Prop :=
  ∀ (d8 : Byte), ∀ e ∈ andForms d8, ∀ s : State, s.mode = .run → e.2.1.inRange s →
    ∃ t, exec e.1 s = .next t ∧ t.a = s.a &&& e.2.1.value s ∧
      FlagsAre (s.a &&& e.2.1.value s == 0) false true false t ∧ AluFrame e.2.2 s t

/-- 41_alu8.md R100, R118 to R123: XOR and OR; H and C cleared; Z and N by decision D14. -/
def Obligations.XorOrAccumulator : Prop :=
  ∀ (d8 : Byte) (s : State), s.mode = .run →
    (∀ e ∈ xorForms d8, e.2.1.inRange s →
      ∃ t, exec e.1 s = .next t ∧ t.a = s.a ^^^ e.2.1.value s ∧
        FlagsAre (s.a ^^^ e.2.1.value s == 0) false false false t ∧ AluFrame e.2.2 s t) ∧
    ∀ e ∈ orForms d8, e.2.1.inRange s →
      ∃ t, exec e.1 s = .next t ∧ t.a = s.a ||| e.2.1.value s ∧
        FlagsAre (s.a ||| e.2.1.value s == 0) false false false t ∧ AluFrame e.2.2 s t

/-- 41_alu8.md R97, R124 to R126: CP sets the flags of the subtraction and never writes A. -/
def Obligations.CompareAccumulator : Prop :=
  ∀ (d8 : Byte), ∀ e ∈ cpForms d8, ∀ s : State, s.mode = .run → e.2.1.inRange s →
    ∃ t, exec e.1 s = .next t ∧ t.a = s.a ∧
      FlagsAre (s.a == e.2.1.value s) true (decide (s.a.toNat % 16 < (e.2.1.value s).toNat % 16))
        (decide (s.a.toNat < (e.2.1.value s).toNat)) t ∧ AluFrame e.2.2 s t

/-! ### Increment, decrement, rotate -/

/-- 41_alu8.md R101, R127: INC r; Z, N and H by the result, C kept (decision D16). -/
def Obligations.IncrementRegister : Prop :=
  ∀ e ∈ incReg, ∀ s : State, s.mode = .run →
    ∃ t, exec e.1 s = .next t ∧ regValue e.2 t = regValue e.2 s + 1 ∧
      FlagsAre (regValue e.2 s == 0xFF) false (decide ((regValue e.2 s).toNat % 16 = 15)) (getFlag .c s) t ∧
      KeepsRegsBut [e.2, .f] s t ∧ KeepsFlagsBut [.z, .n, .h] s t ∧ CompletedNoStore 1 s t

/-- 41_alu8.md R102, R129, with 90_conflicts.md C1 and C2: DEC r; Z only on a zero result, H on a borrow from bit 4, C kept (decision D16). -/
def Obligations.DecrementRegister : Prop :=
  ∀ e ∈ decReg, ∀ s : State, s.mode = .run →
    ∃ t, exec e.1 s = .next t ∧ regValue e.2 t = regValue e.2 s - 1 ∧
      FlagsAre (regValue e.2 s == 0x01) true (decide ((regValue e.2 s).toNat % 16 = 0)) (getFlag .c s) t ∧
      KeepsRegsBut [e.2, .f] s t ∧ KeepsFlagsBut [.z, .n, .h] s t ∧ CompletedNoStore 1 s t

/-- 41_alu8.md R128, R130: INC (HL) and DEC (HL) change the byte at HL and F alone, in three steps (DEC by decision D18); C kept
(decision D16). -/
def Obligations.IncrementDecrementMemory : Prop :=
  ∀ s : State, s.mode = .run → MemInv s → (readPair .hl s).toNat < s.memSize →
    ∀ v : Byte, v = s.mem.read (readPair .hl s).toNat →
    (∃ t, exec .incIndHL s = .next t ∧ t.mem.read (readPair .hl s).toNat = v + 1 ∧
      FlagsAre (v == 0xFF) false (decide (v.toNat % 16 = 15)) (getFlag .c s) t ∧
      KeepsMemoryBut (readPair .hl s).toNat s t ∧ KeepsRegsBut [.f] s t ∧ KeepsFlagsBut [.z, .n, .h] s t ∧
      t.pc = s.pc ∧ CompletedIn 3 s t) ∧
    ∃ t, exec .decIndHL s = .next t ∧ t.mem.read (readPair .hl s).toNat = v - 1 ∧
      FlagsAre (v == 0x01) true (decide (v.toNat % 16 = 0)) (getFlag .c s) t ∧
      KeepsMemoryBut (readPair .hl s).toNat s t ∧ KeepsRegsBut [.f] s t ∧ KeepsFlagsBut [.z, .n, .h] s t ∧
      t.pc = s.pc ∧ CompletedIn 3 s t

/-- 42_rotate.md R132 to R134: RLCA and RRCA rotate A by one; C takes the bit that rotated out (RRCA by decision D12), N and H are cleared
(decision D13), Z is kept. -/
def Obligations.RotateAccumulator : Prop :=
  ∀ s : State, s.mode = .run →
    (∃ t, exec .rlca s = .next t ∧ t.a = s.a.rotateLeft 1 ∧
      FlagsAre (getFlag .z s) false false (s.a.getLsbD 7) t ∧ KeepsRegsBut [.a, .f] s t ∧
      KeepsFlagsBut [.n, .h, .c] s t ∧ CompletedNoStore 1 s t) ∧
    ∃ t, exec .rrca s = .next t ∧ t.a = s.a.rotateRight 1 ∧
      FlagsAre (getFlag .z s) false false (s.a.getLsbD 0) t ∧ KeepsRegsBut [.a, .f] s t ∧
      KeepsFlagsBut [.n, .h, .c] s t ∧ CompletedNoStore 1 s t

/-- 44_inc_dec16.md R151 to R154: INC rr and DEC rr change the pair by one modulo 2^16 in two steps (decision D18); no flag (decision D17). -/
def Obligations.IncrementDecrementPair : Prop :=
  ∀ s : State, s.mode = .run →
    (∀ e ∈ incPair, ∃ t, exec e.1 s = .next t ∧ readPair e.2 t = readPair e.2 s + 1 ∧ KeepsRegsBut (pairRegs e.2) s t ∧
      CompletedNoStore 2 s t) ∧
    ∀ e ∈ decPair, ∃ t, exec e.1 s = .next t ∧ readPair e.2 t = readPair e.2 s - 1 ∧ KeepsRegsBut (pairRegs e.2) s t ∧
      CompletedNoStore 2 s t

/-- 44_inc_dec16.md R151, R152, 70_reset_and_hazards.md R186 (c): after the first own step of INC rr or DEC rr the pair shows the new low byte and the old high byte,
and the instruction is not complete. -/
def Obligations.HalfUpdatedPairIsVisible : Prop :=
  ∀ s : State, s.mode = .hand → s.fault = none →
    (∀ e ∈ incPair, ∃ t, exec e.1 s = .next t ∧ t.busy = true ∧ (stepCommand t).busy = true ∧
      readPair e.2 (stepCommand t) = joinBytes (pairHigh e.2 s) (pairLow e.2 s + 1)) ∧
    ∀ e ∈ decPair, ∃ t, exec e.1 s = .next t ∧ t.busy = true ∧ (stepCommand t).busy = true ∧
      readPair e.2 (stepCommand t) = joinBytes (pairHigh e.2 s) (pairLow e.2 s - 1)

/-! ### Stack operations, which no opcode reaches -/

/-- 45_stack.md R156 (decision D34): PUSH stores the high byte at SP - 1, then the low byte at SP - 2, both as they are after the step's own
decrement of SP, and changes no other byte and no register but SP. -/
def Obligations.PushStoresHighThenLow : Prop :=
  ∀ (p : Pair) (s : State), MemInv s → (readPair .sp s - 1).toNat < s.memSize → (readPair .sp s - 2).toNat < s.memSize →
    ∃ u, twoOwnSteps (.push p) s = some u ∧
      u.mem.read (readPair .sp s - 1).toNat = pairHigh p (writePair .sp (readPair .sp s - 1) s) ∧
      u.mem.read (readPair .sp s - 2).toNat = pairLow p (writePair .sp (readPair .sp s - 2) s) ∧
      (∀ a : Nat, a ≠ (readPair .sp s - 1).toNat → a ≠ (readPair .sp s - 2).toNat → u.mem.read a = s.mem.read a) ∧
      readPair .sp u = readPair .sp s - 2 ∧ KeepsRegsBut [.sph, .spl] s u

/-- 45_stack.md R157 (decision D34): POP of the same pair after PUSH restores the pair and SP; for BC, DE and HL. -/
def Obligations.PopAfterPushRestores : Prop :=
  ∀ (p : Pair) (s : State), p ≠ .sp → MemInv s → (readPair .sp s - 1).toNat < s.memSize →
    (readPair .sp s - 2).toNat < s.memSize →
      ∃ u v, twoOwnSteps (.push p) s = some u ∧ twoOwnSteps (.pop p) u = some v ∧
        readPair p v = readPair p s ∧ readPair .sp v = readPair .sp s ∧ KeepsRegsBut [] s v

/-! ### Relative jumps -/

/-- 46_branch.md R158, R160: JR sets PC to pc_post plus the signed offset minus two, modulo 2^16: with the opcode at `a0` (pc_post = a0 + 2), to `a0` plus the
signed offset; three steps (decision D18), nothing else changes. -/
def Obligations.JumpRelative : Prop :=
  ∀ (e8 : Byte) (s : State), s.mode = .run →
    ∃ t, exec (.jr_e8 e8) s = .next t ∧ t.pc = s.pc + e8.signExtend 16 - 2 ∧
      (∀ a0 : Word, s.pc = a0 + 2 → t.pc = a0 + e8.signExtend 16) ∧
      KeepsRegsBut [] s t ∧ KeepsMemory s t ∧ CompletedIn 3 s t

/-- 46_branch.md R158, R159, R161: JR cc jumps in three steps if its flag condition holds, and otherwise leaves PC at pc_post and completes in two (step
counts and the last three conditions by decisions D11, D18). -/
def Obligations.JumpConditional : Prop :=
  ∀ (e8 : Byte), ∀ e ∈ jrcc e8, ∀ s : State, s.mode = .run →
    ∃ t, exec e.1 s = .next t ∧ KeepsRegsBut [] s t ∧ KeepsMemory s t ∧
      (if (match e.2 with
            | .nz => !getFlag .z s
            | .z => getFlag .z s
            | .nc => !getFlag .c s
            | .c => getFlag .c s) = true
        then t.pc = s.pc + e8.signExtend 16 - 2 ∧ CompletedIn 3 s t
        else t.pc = s.pc ∧ CompletedIn 2 s t)
end

