-- ==== Sys2Proof/Laws/Arith.lean ====
section
/-! SUPPORT. The arithmetic of the shared operations: joining and splitting a pair, the flag update engine in closed form, the 16-bit
increment and decrement by bytes, the target of a jump. -/

namespace Sys2Proof.Machine

/-! ### Pairs of bytes (20_memory.md R47) -/

theorem joinBytes_toNat (hi lo : Byte) : (joinBytes hi lo).toNat = hi.toNat * 256 + lo.toNat := by
  simp only [joinBytes, BitVec.toNat_append]
  rw [← Nat.shiftLeft_add_eq_or_of_lt (by have := lo.isLt; simpa using this), Nat.shiftLeft_eq]

theorem joinBytes_split (v : Word) : joinBytes (hiByte v) (loByte v) = v := by
  apply BitVec.eq_of_toNat_eq
  rw [joinBytes_toNat]
  have := v.isLt
  simp [hiByte, loByte, Nat.shiftRight_eq_div_pow]
  omega

theorem loByte_joinBytes (hi lo : Byte) : loByte (joinBytes hi lo) = lo := by
  apply BitVec.eq_of_toNat_eq
  have h := joinBytes_toNat hi lo
  have := lo.isLt
  simp [loByte, h]
  omega

theorem hiByte_joinBytes (hi lo : Byte) : hiByte (joinBytes hi lo) = hi := by
  apply BitVec.eq_of_toNat_eq
  have h := joinBytes_toNat hi lo
  have := lo.isLt
  simp [hiByte, h, Nat.shiftRight_eq_div_pow]
  omega

/-- The low byte, then the high byte if the low one wrapped to 0x00 (44_inc_dec16.md R151), is the pair plus one. -/
theorem joinBytes_inc (hi lo : Byte) :
    joinBytes (if lo + 1 == 0x00 then hi + 1 else hi) (lo + 1) = joinBytes hi lo + 1 := by
  apply BitVec.eq_of_toNat_eq
  rw [BitVec.toNat_add (joinBytes hi lo), joinBytes_toNat, joinBytes_toNat]
  have := hi.isLt
  have := lo.isLt
  by_cases h : lo + 1 == 0x00
  · have : lo.toNat = 255 := by have := beq_iff_eq.mp h; bv_omega
    rw [if_pos h, BitVec.toNat_add, BitVec.toNat_add]
    simp [this]
    omega
  · have : lo.toNat ≠ 255 := by intro h2; apply h; apply beq_iff_eq.mpr; bv_omega
    rw [if_neg h, BitVec.toNat_add]
    simp
    omega

/-- The low byte, then the high byte if the low one wrapped to 0xFF (44_inc_dec16.md R152), is the pair minus one. -/
theorem joinBytes_dec (hi lo : Byte) :
    joinBytes (if lo - 1 == 0xFF then hi - 1 else hi) (lo - 1) = joinBytes hi lo - 1 := by
  apply BitVec.eq_of_toNat_eq
  rw [BitVec.toNat_sub (joinBytes hi lo), joinBytes_toNat, joinBytes_toNat]
  have := hi.isLt
  have := lo.isLt
  by_cases h : lo - 1 == 0xFF
  · have : lo.toNat = 0 := by have := beq_iff_eq.mp h; bv_omega
    rw [if_pos h, BitVec.toNat_sub, BitVec.toNat_sub]
    simp [this]
    omega
  · have : lo.toNat ≠ 0 := by intro h2; apply h; apply beq_iff_eq.mpr; bv_omega
    rw [if_neg h, BitVec.toNat_sub]
    simp
    omega

/-! ### The flag update engine (41_alu8.md R95 to R102) -/

theorem nibble_eq (v : Byte) : nibble v = v.toNat % 16 := by
  simp only [nibble, BitVec.toNat_and]
  exact Nat.and_two_pow_sub_one_eq_mod v.toNat 4

theorem carryNat_eq (c : Bool) : carryNat c = c.toNat := by cases c <;> rfl

theorem add8_eq (a v : Byte) (c : Bool) :
    add8 a v c = (a + v + BitVec.ofNat 8 c.toNat,
      { z := a + v + BitVec.ofNat 8 c.toNat == 0, n := false
        h := decide (15 < a.toNat % 16 + v.toNat % 16 + c.toNat), c := decide (255 < a.toNat + v.toNat + c.toNat) }) := by
  have h : trunc8 (a.toNat + v.toNat + carryNat c) = a + v + BitVec.ofNat 8 c.toNat := by
    apply BitVec.eq_of_toNat_eq
    cases c <;> simp [carryNat]
  simp only [add8, h, nibble_eq]
  simp [carryNat_eq]

theorem sub8_eq (a v : Byte) (c : Bool) :
    sub8 a v c = (a - v - BitVec.ofNat 8 c.toNat,
      { z := a - v - BitVec.ofNat 8 c.toNat == 0, n := true
        h := decide (a.toNat % 16 < v.toNat % 16 + c.toNat), c := decide (a.toNat < v.toNat + c.toNat) }) := by
  have h : BitVec.ofInt 8 ((a.toNat : Int) - v.toNat - (c.toNat : Nat)) = a - v - BitVec.ofNat 8 c.toNat := by
    apply BitVec.eq_of_toNat_eq
    have := a.isLt
    have := v.isLt
    cases c <;> simp <;> omega
  have h2 : decide (((a.toNat % 16 : Nat) : Int) - (v.toNat % 16 : Nat) - (c.toNat : Nat) < 0) =
      decide (a.toNat % 16 < v.toNat % 16 + c.toNat) := decide_eq_decide.mpr (by omega)
  have h3 : decide (((a.toNat : Nat) : Int) - (v.toNat : Nat) - (c.toNat : Nat) < 0) =
      decide (a.toNat < v.toNat + c.toNat) := decide_eq_decide.mpr (by omega)
  simp only [sub8, nibble_eq, carryNat_eq, h, h2, h3]

theorem inc8_eq (v : Byte) : inc8 v = (v + 1, { z := v == 0xFF, n := false, h := decide (v.toNat % 16 = 15) }) := by
  revert v
  decide

theorem dec8_eq (v : Byte) : dec8 v = (v - 1, { z := v == 0x01, n := true, h := decide (v.toNat % 16 = 0) }) := by
  revert v
  decide

/-! ### Jumps (46_branch.md R158) -/

/-- The target of a jump is `pc_post` plus the sign-extended offset minus two. -/
theorem jumpTarget_eq (pcPost : Word) (e8 : Byte) :
    jumpTarget Config.jrBias pcPost e8 = pcPost + e8.signExtend 16 - 2 := by
  have h1 : BitVec.ofInt 16 (pcPost.toNat : Int) = pcPost := by simp
  have h2 : BitVec.ofInt 16 e8.toInt = e8.signExtend 16 := rfl
  simp only [jumpTarget, Config.jrBias, BitVec.ofInt_add, h1, h2]
  bv_omega

end Sys2Proof.Machine
end

