-- ==== Sys2Proof/Laws/State.lean ====
section
/-! SUPPORT. What each update of State leaves in each field: one lemma per field and update. -/

namespace Sys2Proof.Machine

@[simp] theorem setFlag_a (fl : Flag) (on : Bool) (s : State) : (setFlag fl on s).a = s.a := rfl
@[simp] theorem setFlag_b (fl : Flag) (on : Bool) (s : State) : (setFlag fl on s).b = s.b := rfl
@[simp] theorem setFlag_c (fl : Flag) (on : Bool) (s : State) : (setFlag fl on s).c = s.c := rfl
@[simp] theorem setFlag_d (fl : Flag) (on : Bool) (s : State) : (setFlag fl on s).d = s.d := rfl
@[simp] theorem setFlag_e (fl : Flag) (on : Bool) (s : State) : (setFlag fl on s).e = s.e := rfl
@[simp] theorem setFlag_h (fl : Flag) (on : Bool) (s : State) : (setFlag fl on s).h = s.h := rfl
@[simp] theorem setFlag_l (fl : Flag) (on : Bool) (s : State) : (setFlag fl on s).l = s.l := rfl
@[simp] theorem setFlag_sph (fl : Flag) (on : Bool) (s : State) : (setFlag fl on s).sph = s.sph := rfl
@[simp] theorem setFlag_spl (fl : Flag) (on : Bool) (s : State) : (setFlag fl on s).spl = s.spl := rfl
@[simp] theorem setFlag_pc (fl : Flag) (on : Bool) (s : State) : (setFlag fl on s).pc = s.pc := rfl
@[simp] theorem setFlag_inflight (fl : Flag) (on : Bool) (s : State) : (setFlag fl on s).inflight = s.inflight := rfl
@[simp] theorem setFlag_fault (fl : Flag) (on : Bool) (s : State) : (setFlag fl on s).fault = s.fault := rfl
@[simp] theorem setFlag_view (fl : Flag) (on : Bool) (s : State) : (setFlag fl on s).view = s.view := rfl
@[simp] theorem setFlag_result (fl : Flag) (on : Bool) (s : State) : (setFlag fl on s).result = s.result := rfl
@[simp] theorem setFlag_mem (fl : Flag) (on : Bool) (s : State) : (setFlag fl on s).mem = s.mem := rfl
@[simp] theorem setFlag_memSize (fl : Flag) (on : Bool) (s : State) : (setFlag fl on s).memSize = s.memSize := rfl
@[simp] theorem setFlag_mode (fl : Flag) (on : Bool) (s : State) : (setFlag fl on s).mode = s.mode := rfl
@[simp] theorem setFlag_host (fl : Flag) (on : Bool) (s : State) : (setFlag fl on s).host = s.host := rfl

@[simp] theorem setZNHC_a (fl : FlagsZNHC) (s : State) : (setZNHC fl s).a = s.a := rfl
@[simp] theorem setZNHC_b (fl : FlagsZNHC) (s : State) : (setZNHC fl s).b = s.b := rfl
@[simp] theorem setZNHC_c (fl : FlagsZNHC) (s : State) : (setZNHC fl s).c = s.c := rfl
@[simp] theorem setZNHC_d (fl : FlagsZNHC) (s : State) : (setZNHC fl s).d = s.d := rfl
@[simp] theorem setZNHC_e (fl : FlagsZNHC) (s : State) : (setZNHC fl s).e = s.e := rfl
@[simp] theorem setZNHC_h (fl : FlagsZNHC) (s : State) : (setZNHC fl s).h = s.h := rfl
@[simp] theorem setZNHC_l (fl : FlagsZNHC) (s : State) : (setZNHC fl s).l = s.l := rfl
@[simp] theorem setZNHC_sph (fl : FlagsZNHC) (s : State) : (setZNHC fl s).sph = s.sph := rfl
@[simp] theorem setZNHC_spl (fl : FlagsZNHC) (s : State) : (setZNHC fl s).spl = s.spl := rfl
@[simp] theorem setZNHC_pc (fl : FlagsZNHC) (s : State) : (setZNHC fl s).pc = s.pc := rfl
@[simp] theorem setZNHC_inflight (fl : FlagsZNHC) (s : State) : (setZNHC fl s).inflight = s.inflight := rfl
@[simp] theorem setZNHC_fault (fl : FlagsZNHC) (s : State) : (setZNHC fl s).fault = s.fault := rfl
@[simp] theorem setZNHC_view (fl : FlagsZNHC) (s : State) : (setZNHC fl s).view = s.view := rfl
@[simp] theorem setZNHC_result (fl : FlagsZNHC) (s : State) : (setZNHC fl s).result = s.result := rfl
@[simp] theorem setZNHC_mem (fl : FlagsZNHC) (s : State) : (setZNHC fl s).mem = s.mem := rfl
@[simp] theorem setZNHC_memSize (fl : FlagsZNHC) (s : State) : (setZNHC fl s).memSize = s.memSize := rfl
@[simp] theorem setZNHC_mode (fl : FlagsZNHC) (s : State) : (setZNHC fl s).mode = s.mode := rfl
@[simp] theorem setZNHC_host (fl : FlagsZNHC) (s : State) : (setZNHC fl s).host = s.host := rfl

@[simp] theorem setZNH_a (fl : FlagsZNH) (s : State) : (setZNH fl s).a = s.a := rfl
@[simp] theorem setZNH_b (fl : FlagsZNH) (s : State) : (setZNH fl s).b = s.b := rfl
@[simp] theorem setZNH_c (fl : FlagsZNH) (s : State) : (setZNH fl s).c = s.c := rfl
@[simp] theorem setZNH_d (fl : FlagsZNH) (s : State) : (setZNH fl s).d = s.d := rfl
@[simp] theorem setZNH_e (fl : FlagsZNH) (s : State) : (setZNH fl s).e = s.e := rfl
@[simp] theorem setZNH_h (fl : FlagsZNH) (s : State) : (setZNH fl s).h = s.h := rfl
@[simp] theorem setZNH_l (fl : FlagsZNH) (s : State) : (setZNH fl s).l = s.l := rfl
@[simp] theorem setZNH_sph (fl : FlagsZNH) (s : State) : (setZNH fl s).sph = s.sph := rfl
@[simp] theorem setZNH_spl (fl : FlagsZNH) (s : State) : (setZNH fl s).spl = s.spl := rfl
@[simp] theorem setZNH_pc (fl : FlagsZNH) (s : State) : (setZNH fl s).pc = s.pc := rfl
@[simp] theorem setZNH_inflight (fl : FlagsZNH) (s : State) : (setZNH fl s).inflight = s.inflight := rfl
@[simp] theorem setZNH_fault (fl : FlagsZNH) (s : State) : (setZNH fl s).fault = s.fault := rfl
@[simp] theorem setZNH_view (fl : FlagsZNH) (s : State) : (setZNH fl s).view = s.view := rfl
@[simp] theorem setZNH_result (fl : FlagsZNH) (s : State) : (setZNH fl s).result = s.result := rfl
@[simp] theorem setZNH_mem (fl : FlagsZNH) (s : State) : (setZNH fl s).mem = s.mem := rfl
@[simp] theorem setZNH_memSize (fl : FlagsZNH) (s : State) : (setZNH fl s).memSize = s.memSize := rfl
@[simp] theorem setZNH_mode (fl : FlagsZNH) (s : State) : (setZNH fl s).mode = s.mode := rfl
@[simp] theorem setZNH_host (fl : FlagsZNH) (s : State) : (setZNH fl s).host = s.host := rfl

@[simp] theorem setPairHigh_a (p : Pair) (v : Byte) (s : State) : (setPairHigh p v s).a = s.a := by cases p <;> rfl
@[simp] theorem setPairHigh_f (p : Pair) (v : Byte) (s : State) : (setPairHigh p v s).f = s.f := by cases p <;> rfl
@[simp] theorem setPairHigh_pc (p : Pair) (v : Byte) (s : State) : (setPairHigh p v s).pc = s.pc := by cases p <;> rfl
@[simp] theorem setPairHigh_inflight (p : Pair) (v : Byte) (s : State) : (setPairHigh p v s).inflight = s.inflight := by cases p <;> rfl
@[simp] theorem setPairHigh_fault (p : Pair) (v : Byte) (s : State) : (setPairHigh p v s).fault = s.fault := by cases p <;> rfl
@[simp] theorem setPairHigh_view (p : Pair) (v : Byte) (s : State) : (setPairHigh p v s).view = s.view := by cases p <;> rfl
@[simp] theorem setPairHigh_result (p : Pair) (v : Byte) (s : State) : (setPairHigh p v s).result = s.result := by cases p <;> rfl
@[simp] theorem setPairHigh_mem (p : Pair) (v : Byte) (s : State) : (setPairHigh p v s).mem = s.mem := by cases p <;> rfl
@[simp] theorem setPairHigh_memSize (p : Pair) (v : Byte) (s : State) : (setPairHigh p v s).memSize = s.memSize := by cases p <;> rfl
@[simp] theorem setPairHigh_mode (p : Pair) (v : Byte) (s : State) : (setPairHigh p v s).mode = s.mode := by cases p <;> rfl
@[simp] theorem setPairHigh_host (p : Pair) (v : Byte) (s : State) : (setPairHigh p v s).host = s.host := by cases p <;> rfl

@[simp] theorem setPairLow_a (p : Pair) (v : Byte) (s : State) : (setPairLow p v s).a = s.a := by cases p <;> rfl
@[simp] theorem setPairLow_f (p : Pair) (v : Byte) (s : State) : (setPairLow p v s).f = s.f := by cases p <;> rfl
@[simp] theorem setPairLow_pc (p : Pair) (v : Byte) (s : State) : (setPairLow p v s).pc = s.pc := by cases p <;> rfl
@[simp] theorem setPairLow_inflight (p : Pair) (v : Byte) (s : State) : (setPairLow p v s).inflight = s.inflight := by cases p <;> rfl
@[simp] theorem setPairLow_fault (p : Pair) (v : Byte) (s : State) : (setPairLow p v s).fault = s.fault := by cases p <;> rfl
@[simp] theorem setPairLow_view (p : Pair) (v : Byte) (s : State) : (setPairLow p v s).view = s.view := by cases p <;> rfl
@[simp] theorem setPairLow_result (p : Pair) (v : Byte) (s : State) : (setPairLow p v s).result = s.result := by cases p <;> rfl
@[simp] theorem setPairLow_mem (p : Pair) (v : Byte) (s : State) : (setPairLow p v s).mem = s.mem := by cases p <;> rfl
@[simp] theorem setPairLow_memSize (p : Pair) (v : Byte) (s : State) : (setPairLow p v s).memSize = s.memSize := by cases p <;> rfl
@[simp] theorem setPairLow_mode (p : Pair) (v : Byte) (s : State) : (setPairLow p v s).mode = s.mode := by cases p <;> rfl
@[simp] theorem setPairLow_host (p : Pair) (v : Byte) (s : State) : (setPairLow p v s).host = s.host := by cases p <;> rfl

@[simp] theorem writePair_a (p : Pair) (v : Word) (s : State) : (writePair p v s).a = s.a := by cases p <;> rfl
@[simp] theorem writePair_f (p : Pair) (v : Word) (s : State) : (writePair p v s).f = s.f := by cases p <;> rfl
@[simp] theorem writePair_pc (p : Pair) (v : Word) (s : State) : (writePair p v s).pc = s.pc := by cases p <;> rfl
@[simp] theorem writePair_inflight (p : Pair) (v : Word) (s : State) : (writePair p v s).inflight = s.inflight := by cases p <;> rfl
@[simp] theorem writePair_fault (p : Pair) (v : Word) (s : State) : (writePair p v s).fault = s.fault := by cases p <;> rfl
@[simp] theorem writePair_view (p : Pair) (v : Word) (s : State) : (writePair p v s).view = s.view := by cases p <;> rfl
@[simp] theorem writePair_result (p : Pair) (v : Word) (s : State) : (writePair p v s).result = s.result := by cases p <;> rfl
@[simp] theorem writePair_mem (p : Pair) (v : Word) (s : State) : (writePair p v s).mem = s.mem := by cases p <;> rfl
@[simp] theorem writePair_memSize (p : Pair) (v : Word) (s : State) : (writePair p v s).memSize = s.memSize := by cases p <;> rfl
@[simp] theorem writePair_mode (p : Pair) (v : Word) (s : State) : (writePair p v s).mode = s.mode := by cases p <;> rfl
@[simp] theorem writePair_host (p : Pair) (v : Word) (s : State) : (writePair p v s).host = s.host := by cases p <;> rfl

@[simp] theorem raiseFault_a (x : FaultCause) (s : State) : (raiseFault x s).a = s.a := rfl
@[simp] theorem raiseFault_f (x : FaultCause) (s : State) : (raiseFault x s).f = s.f := rfl
@[simp] theorem raiseFault_b (x : FaultCause) (s : State) : (raiseFault x s).b = s.b := rfl
@[simp] theorem raiseFault_c (x : FaultCause) (s : State) : (raiseFault x s).c = s.c := rfl
@[simp] theorem raiseFault_d (x : FaultCause) (s : State) : (raiseFault x s).d = s.d := rfl
@[simp] theorem raiseFault_e (x : FaultCause) (s : State) : (raiseFault x s).e = s.e := rfl
@[simp] theorem raiseFault_h (x : FaultCause) (s : State) : (raiseFault x s).h = s.h := rfl
@[simp] theorem raiseFault_l (x : FaultCause) (s : State) : (raiseFault x s).l = s.l := rfl
@[simp] theorem raiseFault_sph (x : FaultCause) (s : State) : (raiseFault x s).sph = s.sph := rfl
@[simp] theorem raiseFault_spl (x : FaultCause) (s : State) : (raiseFault x s).spl = s.spl := rfl
@[simp] theorem raiseFault_pc (x : FaultCause) (s : State) : (raiseFault x s).pc = s.pc := rfl
@[simp] theorem raiseFault_view (x : FaultCause) (s : State) : (raiseFault x s).view = s.view := rfl
@[simp] theorem raiseFault_mem (x : FaultCause) (s : State) : (raiseFault x s).mem = s.mem := rfl
@[simp] theorem raiseFault_memSize (x : FaultCause) (s : State) : (raiseFault x s).memSize = s.memSize := rfl
@[simp] theorem raiseFault_mode (x : FaultCause) (s : State) : (raiseFault x s).mode = s.mode := rfl
@[simp] theorem raiseFault_host (x : FaultCause) (s : State) : (raiseFault x s).host = s.host := rfl

@[simp] theorem raiseFault_fault (x : FaultCause) (s : State) : (raiseFault x s).fault = some x := rfl
@[simp] theorem raiseFault_inflight (x : FaultCause) (s : State) : (raiseFault x s).inflight = none := rfl
@[simp] theorem raiseFault_result (x : FaultCause) (s : State) : (raiseFault x s).result = some (.fault x) := rfl

@[simp] theorem decline_a (w : Declined) (s : State) : (decline w s).a = s.a := rfl
@[simp] theorem decline_f (w : Declined) (s : State) : (decline w s).f = s.f := rfl
@[simp] theorem decline_b (w : Declined) (s : State) : (decline w s).b = s.b := rfl
@[simp] theorem decline_c (w : Declined) (s : State) : (decline w s).c = s.c := rfl
@[simp] theorem decline_d (w : Declined) (s : State) : (decline w s).d = s.d := rfl
@[simp] theorem decline_e (w : Declined) (s : State) : (decline w s).e = s.e := rfl
@[simp] theorem decline_h (w : Declined) (s : State) : (decline w s).h = s.h := rfl
@[simp] theorem decline_l (w : Declined) (s : State) : (decline w s).l = s.l := rfl
@[simp] theorem decline_sph (w : Declined) (s : State) : (decline w s).sph = s.sph := rfl
@[simp] theorem decline_spl (w : Declined) (s : State) : (decline w s).spl = s.spl := rfl
@[simp] theorem decline_pc (w : Declined) (s : State) : (decline w s).pc = s.pc := rfl
@[simp] theorem decline_inflight (w : Declined) (s : State) : (decline w s).inflight = s.inflight := rfl
@[simp] theorem decline_fault (w : Declined) (s : State) : (decline w s).fault = s.fault := rfl
@[simp] theorem decline_view (w : Declined) (s : State) : (decline w s).view = s.view := rfl
@[simp] theorem decline_mem (w : Declined) (s : State) : (decline w s).mem = s.mem := rfl
@[simp] theorem decline_memSize (w : Declined) (s : State) : (decline w s).memSize = s.memSize := rfl
@[simp] theorem decline_mode (w : Declined) (s : State) : (decline w s).mode = s.mode := rfl
@[simp] theorem decline_host (w : Declined) (s : State) : (decline w s).host = s.host := rfl

@[simp] theorem decline_result (w : Declined) (s : State) : (decline w s).result = some (.refused w) := rfl

@[simp] theorem construct_mem (s : State) : (construct s).mem = s.mem := rfl
@[simp] theorem construct_memSize (s : State) : (construct s).memSize = s.memSize := rfl
@[simp] theorem construct_host (s : State) : (construct s).host = s.host := rfl
@[simp] theorem construct_fault (s : State) : (construct s).fault = none := rfl
@[simp] theorem construct_inflight (s : State) : (construct s).inflight = none := rfl
@[simp] theorem construct_view (s : State) : (construct s).view = none := rfl
@[simp] theorem construct_f (s : State) : (construct s).f = 0 := rfl

@[simp] theorem pairHigh_setPairHigh (p : Pair) (v : Byte) (s : State) : pairHigh p (setPairHigh p v s) = v := by
  cases p <;> rfl
@[simp] theorem pairLow_setPairLow (p : Pair) (v : Byte) (s : State) : pairLow p (setPairLow p v s) = v := by
  cases p <;> rfl
@[simp] theorem pairLow_setPairHigh (p q : Pair) (v : Byte) (s : State) :
    pairLow q (setPairHigh p v s) = pairLow q s := by
  cases p <;> cases q <;> rfl
@[simp] theorem pairHigh_setPairLow (p q : Pair) (v : Byte) (s : State) :
    pairHigh q (setPairLow p v s) = pairHigh q s := by
  cases p <;> cases q <;> rfl

@[simp] theorem joinBytes_hiByte_loByte (v : Word) : joinBytes (hiByte v) (loByte v) = v := by
  apply BitVec.eq_of_getLsbD_eq
  intro i hi
  simp only [joinBytes, hiByte, loByte, BitVec.getLsbD_append, BitVec.getLsbD_extractLsb']
  by_cases h8 : i < 8
  · simp [h8]
  · have h1 : i - 8 < 8 := by omega
    have h2 : 8 + (i - 8) = i := by omega
    simp [h8, h1, h2]

/-- Joining the two halves of a written pair gives the value written (10_state.md R24, R26). -/
@[simp] theorem readPair_writePair (p : Pair) (v : Word) (s : State) : readPair p (writePair p v s) = v := by
  simp [readPair, writePair]

end Sys2Proof.Machine
end

