-- ==== Sys2Proof/Laws/Ops.lean ====
section
/-! SUPPORT. One lemma per shared operation that says what it can do: memory port, flags, operands. -/

namespace Sys2Proof.Machine

/-! ### The memory port -/

theorem memRead_inRange {s : State} {a : Word} (h : a.toNat < s.memSize) : memRead s a = .ok (s.mem.read a.toNat) := by
  simp [memRead, h]

theorem memRead_outOfRange {s : State} {a : Word} (h : s.memSize ≤ a.toNat) : memRead s a = .error (.outOfRange a) := by
  simp [memRead, Nat.not_lt.mpr h]

theorem memWrite_inRange {s : State} {a : Word} {v : Byte} (h : a.toNat < s.memSize) :
    memWrite s a v = .ok { s with mem := s.mem.write a.toNat v } := by
  simp [memWrite, h]

theorem memWrite_outOfRange {s : State} {a : Word} {v : Byte} (h : s.memSize ≤ a.toNat) :
    memWrite s a v = .error (.outOfRange a) := by
  simp [memWrite, Nat.not_lt.mpr h]

/-- If the port answers a byte, the address is inside the storage and the byte is the storage's. -/
theorem memRead_ok {s : State} {a : Word} {v : Byte} (h : memRead s a = .ok v) :
    a.toNat < s.memSize ∧ v = s.mem.read a.toNat := by
  unfold memRead at h
  split at h
  · next ha => cases h; exact ⟨ha, rfl⟩
  · cases h

/-- If the port faults, it is the out-of-range fault of an address outside the storage. -/
theorem memRead_error {s : State} {a : Word} {x : FaultCause} (h : memRead s a = .error x) :
    s.memSize ≤ a.toNat ∧ x = .outOfRange a := by
  unfold memRead at h
  split at h
  · cases h
  · next ha => cases h; exact ⟨Nat.not_lt.mp ha, rfl⟩

theorem memWrite_ok {s t : State} {a : Word} {v : Byte} (h : memWrite s a v = .ok t) :
    a.toNat < s.memSize ∧ t = { s with mem := s.mem.write a.toNat v } := by
  unfold memWrite at h
  split at h
  · next ha => cases h; exact ⟨ha, rfl⟩
  · cases h

theorem memWrite_error {s : State} {a : Word} {v : Byte} {x : FaultCause} (h : memWrite s a v = .error x) :
    s.memSize ≤ a.toNat ∧ x = .outOfRange a := by
  unfold memWrite at h
  split at h
  · cases h
  · next ha => cases h; exact ⟨Nat.not_lt.mp ha, rfl⟩

/-- A write through the port keeps the canonical form of the storage. -/
theorem memWrite_wf {s t : State} {a : Word} {v : Byte} (h : memWrite s a v = .ok t) (hw : s.mem.wf = true) :
    t.mem.wf = true := by
  obtain ⟨-, rfl⟩ := memWrite_ok h
  exact Memory.write_wf hw a.isLt

/-- Placing bytes keeps the canonical form of the storage. -/
theorem placeBytes_wf {m : Memory} {a : Word} {vs : List Byte} (hw : m.wf = true) :
    (placeBytes m a vs).wf = true := by
  induction vs generalizing m a with
  | nil => exact hw
  | cons v vs ih => exact ih (Memory.write_wf hw a.isLt)

/-! ### Flags -/

theorem putBit_getLsbD (v : Byte) (k j : Nat) (on : Bool) (hk : k < 8) :
    (putBit v k on).getLsbD j = if j = k then on else v.getLsbD j := by
  unfold putBit
  cases on <;> by_cases hjk : j = k
  · subst hjk; simp [hk]
  · simp [BitVec.getLsbD_twoPow, hjk, Ne.symm hjk]
    intro h; exact BitVec.lt_of_getLsbD h
  · subst hjk; simp [hk]
  · simp [BitVec.getLsbD_twoPow, hjk, Ne.symm hjk]

theorem flagBit_lt (fl : Flag) : flagBit fl < 8 := by cases fl <;> decide

theorem flagBit_inj {x y : Flag} : flagBit x = flagBit y ↔ x = y := by
  cases x <;> cases y <;> decide

/-- A flag after another was set or cleared. -/
@[simp] theorem getFlag_setFlag (g fl : Flag) (on : Bool) (s : State) :
    getFlag g (setFlag fl on s) = if g = fl then on else getFlag g s := by
  simp only [getFlag, setFlag, putBit_getLsbD _ _ _ _ (flagBit_lt fl), flagBit_inj]

/-- The four bits of F that hold no flag are untouched (10_state.md R29, R30). -/
theorem setFlag_lowBits (fl : Flag) (on : Bool) (s : State) :
    (setFlag fl on s).f &&& 0x0F = s.f &&& 0x0F := by
  apply BitVec.eq_of_getLsbD_eq
  intro i hi
  simp only [BitVec.getLsbD_and]
  have hs : (setFlag fl on s).f.getLsbD i = if i = flagBit fl then on else s.f.getLsbD i :=
    putBit_getLsbD _ _ _ _ (flagBit_lt fl)
  rw [hs]
  by_cases h : i = flagBit fl
  · have h4 : (0x0F#8).getLsbD i = false := by subst h; cases fl <;> decide
    simp [h4]
  · simp [h]

@[simp] theorem getFlag_setZNHC (g : Flag) (fl : FlagsZNHC) (s : State) :
    getFlag g (setZNHC fl s) = match g with | .z => fl.z | .n => fl.n | .h => fl.h | .c => fl.c := by
  cases g <;> simp [setZNHC]

@[simp] theorem getFlag_setZNH (g : Flag) (fl : FlagsZNH) (s : State) :
    getFlag g (setZNH fl s) = match g with | .z => fl.z | .n => fl.n | .h => fl.h | .c => getFlag .c s := by
  cases g <;> simp [setZNH]

theorem setZNHC_lowBits (fl : FlagsZNHC) (s : State) : (setZNHC fl s).f &&& 0x0F = s.f &&& 0x0F := by
  simp only [setZNHC, setFlag_lowBits]

theorem setZNH_lowBits (fl : FlagsZNH) (s : State) : (setZNH fl s).f &&& 0x0F = s.f &&& 0x0F := by
  simp only [setZNH, setFlag_lowBits]

/-- A flag reads the flag byte alone. -/
theorem getFlag_congr {s t : State} (h : t.f = s.f) (g : Flag) : getFlag g t = getFlag g s := by
  simp [getFlag, h]

/-! ### What the operand operations leave alone -/

/-- The fields no own step of an operation writes: fault register, view, storage size, host's side, in-flight record, result. -/
structure SameControl (s t : State) : Prop where
  fault : t.fault = s.fault
  view : t.view = s.view
  memSize : t.memSize = s.memSize
  mode : t.mode = s.mode
  host : t.host = s.host
  inflight : t.inflight = s.inflight
  result : t.result = s.result

theorem SameControl.refl (s : State) : SameControl s s := ⟨rfl, rfl, rfl, rfl, rfl, rfl, rfl⟩

theorem SameControl.trans {s t u : State} (h : SameControl s t) (k : SameControl t u) : SameControl s u :=
  ⟨k.fault.trans h.fault, k.view.trans h.view, k.memSize.trans h.memSize, k.mode.trans h.mode,
    k.host.trans h.host, k.inflight.trans h.inflight, k.result.trans h.result⟩

/-- `Dereference` writes nothing but the pair's two bytes. -/
theorem dereference_spec (p : Pair) (post : PostOp) (s : State) :
    SameControl s (dereference p post s).2 ∧ (dereference p post s).2.mem = s.mem ∧
      (dereference p post s).2.f = s.f ∧ (dereference p post s).2.a = s.a ∧ (dereference p post s).2.pc = s.pc := by
  cases post <;> cases p <;> exact ⟨⟨rfl, rfl, rfl, rfl, rfl, rfl, rfl⟩, rfl, rfl, rfl, rfl⟩

/-- Writing a slot: the control state, F and PC stay, and the storage changes only through slot 6. -/
theorem writeSlot_spec {sl : Slot} {v : Byte} {s t : State} (h : writeSlot sl v s = .ok t) :
    SameControl s t ∧ t.f = s.f ∧ t.pc = s.pc ∧
      (t.mem = s.mem ∨ sl = .mhl ∧ t.mem = s.mem.write (readPair .hl s).toNat v) := by
  cases sl
  case mhl =>
    obtain ⟨-, rfl⟩ := memWrite_ok (s := s) (a := readPair .hl s) h
    exact ⟨⟨rfl, rfl, rfl, rfl, rfl, rfl, rfl⟩, rfl, rfl, .inr ⟨rfl, rfl⟩⟩
  all_goals
    cases h
    exact ⟨⟨rfl, rfl, rfl, rfl, rfl, rfl, rfl⟩, rfl, rfl, .inl rfl⟩

/-- Reading a place: the control state, the storage, F, A and PC stay. -/
theorem readLoc_spec {p : Loc} {v : Byte} {s t : State} (h : readLoc p s = .ok (v, t)) :
    SameControl s t ∧ t.mem = s.mem ∧ t.f = s.f ∧ t.a = s.a ∧ t.pc = s.pc := by
  cases p with
  | slot sl =>
    simp only [readLoc] at h
    split at h
    · cases h
    · cases h; exact ⟨.refl s, rfl, rfl, rfl, rfl⟩
  | ind pr post =>
    simp only [readLoc] at h
    split at h
    · cases h
    · cases h; exact dereference_spec pr post s

theorem readSrc_spec {x : Src} {v : Byte} {s t : State} (h : readSrc x s = .ok (v, t)) :
    SameControl s t ∧ t.mem = s.mem ∧ t.f = s.f ∧ t.a = s.a ∧ t.pc = s.pc := by
  cases x with
  | loc p => exact readLoc_spec h
  | imm d8 => cases h; exact ⟨.refl s, rfl, rfl, rfl, rfl⟩

/-- Writing a place: the control state, F and PC stay, and the storage is as it was or has one byte written. -/
theorem writeLoc_spec {p : Loc} {v : Byte} {s t : State} (h : writeLoc p v s = .ok t) :
    SameControl s t ∧ t.f = s.f ∧ t.pc = s.pc ∧ (t.mem = s.mem ∨ ∃ w : Word, t.mem = s.mem.write w.toNat v) := by
  cases p with
  | slot sl =>
    obtain ⟨h1, h2, h3, h4⟩ := writeSlot_spec h
    exact ⟨h1, h2, h3, h4.imp id fun ⟨_, hw⟩ => ⟨_, hw⟩⟩
  | ind pr post =>
    obtain ⟨-, rfl⟩ := memWrite_ok h
    obtain ⟨h1, h2, h3, -, h5⟩ := dereference_spec pr post s
    exact ⟨⟨h1.fault, h1.view, h1.memSize, h1.mode, h1.host, h1.inflight, h1.result⟩, h3, h5,
      .inr ⟨_, by simp only [h2]; rfl⟩⟩

end Sys2Proof.Machine
end

