-- ==== Sys2Proof/Laws/Sequencer.lean ====
section
/-! SUPPORT. What the sequencer can do: the frame of an own step, its independence of the in-flight record and the result that State holds,
and the run of a one-step and of a two-step operation. -/

namespace Sys2Proof.Machine

/-! ### The frame of an own step -/

/-- What an own step leaves of the state and of the in-flight record: the control state stays, the record keeps operation, immediates,
extra steps and index, the storage is as it was or has one byte written, and F keeps its four low bits. -/
structure StepFrame (f : InFlight) (s : State) (f' : InFlight) (s' : State) : Prop where
  control : SameControl s s'
  op : f'.op = f.op
  imm : f'.imm = f.imm
  extraLeft : f'.extraLeft = f.extraLeft
  k : f'.k = f.k
  mem : s'.mem = s.mem ∨ ∃ (w : Word) (v : Byte), s'.mem = s.mem.write w.toNat v
  lowBits : s'.f &&& 0x0F = s.f &&& 0x0F

theorem sameControl_setZNHC (fl : FlagsZNHC) (s : State) : SameControl s (setZNHC fl s) :=
  ⟨rfl, rfl, rfl, rfl, rfl, rfl, rfl⟩

theorem sameControl_setZNH (fl : FlagsZNH) (s : State) : SameControl s (setZNH fl s) :=
  ⟨rfl, rfl, rfl, rfl, rfl, rfl, rfl⟩

theorem sameControl_setPairHigh (p : Pair) (v : Byte) (s : State) : SameControl s (setPairHigh p v s) := by
  constructor <;> simp

theorem sameControl_setPairLow (p : Pair) (v : Byte) (s : State) : SameControl s (setPairLow p v s) := by
  constructor <;> simp

theorem setPairHigh_f' (p : Pair) (v : Byte) (s : State) : (setPairHigh p v s).f = s.f := by simp

/-- Every own step keeps the frame. -/
theorem ownStep_frame {f f' : InFlight} {s s' : State} (h : ownStep f s = .ok (s', f')) : StepFrame f s f' s' := by
  unfold ownStep at h
  split at h
  · -- increase
    unfold stepIncrease at h
    split at h
    · cases h
    · split at h
      · cases h
      · next hw =>
        cases h
        obtain ⟨h1, h2, -, h4⟩ := writeSlot_spec hw
        exact ⟨h1.trans (sameControl_setZNH _ _), rfl, rfl, rfl, rfl,
          h4.imp id fun ⟨_, hm⟩ => ⟨_, _, hm⟩, by rw [setZNH_lowBits, h2]⟩
  · -- decrease
    unfold stepDecrease at h
    split at h
    · cases h
    · split at h
      · cases h
      · next hw =>
        cases h
        obtain ⟨h1, h2, -, h4⟩ := writeSlot_spec hw
        exact ⟨h1.trans (sameControl_setZNH _ _), rfl, rfl, rfl, rfl,
          h4.imp id fun ⟨_, hm⟩ => ⟨_, _, hm⟩, by rw [setZNH_lowBits, h2]⟩
  · -- rotateFast
    cases h
    exact ⟨⟨rfl, rfl, rfl, rfl, rfl, rfl, rfl⟩, rfl, rfl, rfl, rfl, .inl rfl, by simp only [setFlag_lowBits]⟩
  · -- rotateNormal
    unfold stepRotateNormal at h
    split at h
    · cases h
    · split at h
      · cases h
      · next hw =>
        cases h
        obtain ⟨h1, h2, -, h4⟩ := writeSlot_spec hw
        exact ⟨h1.trans (sameControl_setZNHC _ _), rfl, rfl, rfl, rfl,
          h4.imp id fun ⟨_, hm⟩ => ⟨_, _, hm⟩, by rw [setZNHC_lowBits, h2]⟩
  · -- load
    unfold stepLoad at h
    split at h
    · cases h
    · next hr =>
      split at h
      · cases h
      · next hw =>
        cases h
        obtain ⟨r1, r2, r3, -, -⟩ := readSrc_spec hr
        obtain ⟨w1, w2, -, w4⟩ := writeLoc_spec hw
        exact ⟨r1.trans w1, rfl, rfl, rfl, rfl, by
          rcases w4 with hm | ⟨w, hm⟩
          · exact .inl (hm.trans r2)
          · exact .inr ⟨w, _, by rw [hm, r2]⟩, by rw [w2, r3]⟩
  · -- alu
    unfold stepAlu at h
    split at h
    · cases h
    · next hr =>
      cases h
      obtain ⟨r1, r2, r3, -, -⟩ := readSrc_spec hr
      refine ⟨?_, rfl, rfl, rfl, rfl, .inl ?_, ?_⟩
      · refine r1.trans ?_
        split <;> exact ⟨rfl, rfl, rfl, rfl, rfl, rfl, rfl⟩
      · split <;> simpa using r2
      · rw [setZNHC_lowBits]; split <;> simp [r3]
  · -- inc16
    unfold stepInc16 at h
    split at h
    · cases h
      exact ⟨sameControl_setPairLow _ _ _, rfl, rfl, rfl, rfl, .inl (by simp), by simp⟩
    · cases h
      split
      · exact ⟨sameControl_setPairHigh _ _ _, rfl, rfl, rfl, rfl, .inl (by simp), by simp⟩
      · exact ⟨.refl _, rfl, rfl, rfl, rfl, .inl rfl, rfl⟩
  · -- dec16
    unfold stepDec16 at h
    split at h
    · cases h
      exact ⟨sameControl_setPairLow _ _ _, rfl, rfl, rfl, rfl, .inl (by simp), by simp⟩
    · cases h
      split
      · exact ⟨sameControl_setPairHigh _ _ _, rfl, rfl, rfl, rfl, .inl (by simp), by simp⟩
      · exact ⟨.refl _, rfl, rfl, rfl, rfl, .inl rfl, rfl⟩
  · -- load16
    cases h
    exact ⟨by constructor <;> simp, rfl, rfl, rfl, rfl, .inl (by simp), by simp⟩
  · -- push
    obtain ⟨d1, d2, d3, -, -⟩ := dereference_spec .sp .preDec s
    unfold stepPush at h
    split at h
    all_goals
      split at h
      · cases h
      · next hw =>
        obtain ⟨-, rfl⟩ := memWrite_ok hw
        cases h
        exact ⟨⟨d1.fault, d1.view, d1.memSize, d1.mode, d1.host, d1.inflight, d1.result⟩, rfl, rfl, rfl, rfl,
          .inr ⟨_, _, by simp only [d2]; rfl⟩, by simp [d3]⟩
  · -- pop
    obtain ⟨d1, d2, d3, -, -⟩ := dereference_spec .sp .postInc s
    unfold stepPop at h
    split at h
    · cases h
    · split at h
      · cases h
        exact ⟨d1.trans (sameControl_setPairLow _ _ _), rfl, rfl, rfl, rfl, .inl (by simp [d2]), by simp [d3]⟩
      · cases h
        exact ⟨d1.trans (sameControl_setPairHigh _ _ _), rfl, rfl, rfl, rfl, .inl (by simp [d2]), by simp [d3]⟩
  · -- jr
    cases h
    exact ⟨⟨rfl, rfl, rfl, rfl, rfl, rfl, rfl⟩, rfl, rfl, rfl, rfl, .inl rfl, rfl⟩
  · -- jrcc
    unfold stepJrcc at h
    split at h
    · cases h
      exact ⟨.refl _, rfl, rfl, rfl, rfl, .inl rfl, rfl⟩
    · cases h
      split
      · exact ⟨⟨rfl, rfl, rfl, rfl, rfl, rfl, rfl⟩, rfl, rfl, rfl, rfl, .inl rfl, rfl⟩
      · exact ⟨.refl _, rfl, rfl, rfl, rfl, .inl rfl, rfl⟩

/-! ### An own step does not look at the sequencer's fields of State -/

/-- The state with another in-flight record, result and mode. -/
def withControl (x : Option InFlight) (r : Option Result) (m : CycleMode) (s : State) : State :=
  { s with inflight := x, result := r, mode := m }

/-- An answer carried to a state with another in-flight record, result and mode. -/
def StepOut.withControl (x : Option InFlight) (r : Option Result) (m : CycleMode) : StepOut → StepOut
  | .error c => .error c
  | .ok (s, f) => .ok (Machine.withControl x r m s, f)

theorem memRead_withControl (x : Option InFlight) (r : Option Result) (m : CycleMode) (s : State)
    (a : Word) : memRead (withControl x r m s) a = memRead s a := rfl

theorem memWrite_withControl (x : Option InFlight) (r : Option Result) (m : CycleMode) (s : State) (a : Word) (v : Byte) :
    memWrite (withControl x r m s) a v =
      match memWrite s a v with
      | .error c => .error c
      | .ok t => .ok (withControl x r m t) := by
  unfold memWrite
  by_cases ha : a.toNat < s.memSize
  · simp [withControl, ha]
  · simp [withControl, ha]

theorem dereference_withControl (x : Option InFlight) (r : Option Result) (m : CycleMode) (p : Pair) (post : PostOp) (s : State) :
    dereference p post (withControl x r m s) = ((dereference p post s).1, withControl x r m (dereference p post s).2) := by
  cases post <;> cases p <;> rfl

theorem readSlot_withControl (x : Option InFlight) (r : Option Result) (m : CycleMode) (sl : Slot) (s : State) :
    readSlot sl (withControl x r m s) = readSlot sl s := by
  cases sl <;> rfl

theorem writeSlot_withControl (x : Option InFlight) (r : Option Result) (m : CycleMode) (sl : Slot) (v : Byte) (s : State) :
    writeSlot sl v (withControl x r m s) =
      match writeSlot sl v s with
      | .error c => .error c
      | .ok t => .ok (withControl x r m t) := by
  cases sl <;> first | rfl | exact memWrite_withControl x r m s _ v

theorem readLoc_withControl (x : Option InFlight) (r : Option Result) (m : CycleMode) (p : Loc) (s : State) :
    readLoc p (withControl x r m s) =
      match readLoc p s with
      | .error c => .error c
      | .ok (v, t) => .ok (v, withControl x r m t) := by
  cases p with
  | slot sl => simp only [readLoc, readSlot_withControl]; cases readSlot sl s <;> rfl
  | ind pr post =>
    simp only [readLoc, dereference_withControl, memRead_withControl]
    cases memRead (dereference pr post s).2 (dereference pr post s).1 <;> rfl

theorem readSrc_withControl (x : Option InFlight) (r : Option Result) (m : CycleMode) (y : Src) (s : State) :
    readSrc y (withControl x r m s) =
      match readSrc y s with
      | .error c => .error c
      | .ok (v, t) => .ok (v, withControl x r m t) := by
  cases y with
  | loc p => exact readLoc_withControl x r m p s
  | imm d8 => rfl

theorem writeLoc_withControl (x : Option InFlight) (r : Option Result) (m : CycleMode) (p : Loc) (v : Byte) (s : State) :
    writeLoc p v (withControl x r m s) =
      match writeLoc p v s with
      | .error c => .error c
      | .ok t => .ok (withControl x r m t) := by
  cases p with
  | slot sl => exact writeSlot_withControl x r m sl v s
  | ind pr post => simp only [writeLoc, dereference_withControl, memWrite_withControl]

/-- An own step gives the same answer whatever in-flight record, result and mode State holds. -/
theorem ownStep_withControl (x : Option InFlight) (r : Option Result) (m : CycleMode) (f : InFlight) (s : State) :
    ownStep f (withControl x r m s) = (ownStep f s).withControl x r m := by
  unfold ownStep
  split
  · simp only [stepIncrease, readSlot_withControl, writeSlot_withControl]
    cases readSlot _ s with
    | error c => rfl
    | ok v => dsimp only; cases writeSlot _ _ s <;> rfl
  · simp only [stepDecrease, readSlot_withControl, writeSlot_withControl]
    cases readSlot _ s with
    | error c => rfl
    | ok v => dsimp only; cases writeSlot _ _ s <;> rfl
  · rfl
  · simp only [stepRotateNormal, readSlot_withControl, writeSlot_withControl]
    cases readSlot _ s with
    | error c => rfl
    | ok v => dsimp only; cases writeSlot _ _ s <;> rfl
  · simp only [stepLoad, readSrc_withControl]
    cases readSrc _ s with
    | error c => rfl
    | ok vt =>
      dsimp only
      simp only [writeLoc_withControl]
      cases writeLoc _ vt.1 vt.2 <;> rfl
  · simp only [stepAlu, readSrc_withControl]
    cases readSrc _ s with
    | error c => rfl
    | ok vt => dsimp only [StepOut.withControl]; split <;> rfl
  · next p _ =>
    simp only [stepInc16]
    split
    · cases p <;> rfl
    · split <;> cases p <;> rfl
  · next p _ =>
    simp only [stepDec16]
    split
    · cases p <;> rfl
    · split <;> cases p <;> rfl
  · next p d _ => cases p <;> rfl
  · next p _ =>
    simp only [stepPush, dereference_withControl, memWrite_withControl]
    have hh : ∀ t, pairHigh p (withControl x r m t) = pairHigh p t := by intro t; cases p <;> rfl
    have hl : ∀ t, pairLow p (withControl x r m t) = pairLow p t := by intro t; cases p <;> rfl
    simp only [hh, hl]
    split
    · cases memWrite (dereference .sp .preDec s).2 _ _ <;> rfl
    · cases memWrite (dereference .sp .preDec s).2 _ _ <;> rfl
  · next p _ =>
    simp only [stepPop, dereference_withControl, memRead_withControl]
    cases memRead (dereference .sp .postInc s).2 _ with
    | error c => rfl
    | ok v => dsimp only; split <;> cases p <;> rfl
  · rfl
  · simp only [stepJrcc]
    split
    · rfl
    · split <;> rfl

/-- The state with another in-flight record and result. -/
def withSeq (x : Option InFlight) (r : Option Result) (s : State) : State := { s with inflight := x, result := r }

@[simp] theorem withSeq_withSeq (x y : Option InFlight) (r q : Option Result) (s : State) :
    withSeq x r (withSeq y q s) = withSeq x r s := rfl

@[simp] theorem withSeq_inflight (x : Option InFlight) (r : Option Result) (s : State) :
    (withSeq x r s).inflight = x := rfl

@[simp] theorem withSeq_result (x : Option InFlight) (r : Option Result) (s : State) : (withSeq x r s).result = r := rfl

/-- An answer carried to a state with another in-flight record and result. -/
def StepOut.withSeq (x : Option InFlight) (r : Option Result) : StepOut → StepOut
  | .error c => .error c
  | .ok (s, f) => .ok (Machine.withSeq x r s, f)

/-- An own step gives the same answer whatever in-flight record and result State holds. -/
theorem ownStep_withSeq (x : Option InFlight) (r : Option Result) (f : InFlight) (s : State) :
    ownStep f (withSeq x r s) = (ownStep f s).withSeq x r := by
  refine (ownStep_withControl x r s.mode f s).trans ?_
  cases h : ownStep f s with
  | error c => rfl
  | ok tg =>
    obtain ⟨t, g⟩ := tg
    simp only [StepOut.withControl, StepOut.withSeq, withControl, Machine.withSeq, ← (ownStep_frame h).control.mode]

/-! ### Steps and runs -/

theorem microStep_extra {s : State} {f : InFlight} {n : Nat} (hf : s.inflight = some f) (hd : f.done = false)
    (he : f.extraLeft = n + 1) :
    microStep s = withSeq (some { f with extraLeft := n }) (some (.stepped false)) s := by
  simp [microStep, hf, hd, he, withSeq]

theorem microStep_own {s t : State} {f g : InFlight} (hf : s.inflight = some f) (hd : f.done = false)
    (he : f.extraLeft = 0) (ho : ownStep f s = .ok (t, g)) :
    microStep s = withSeq (some { g with k := f.k + 1 }) (some (.stepped g.done)) t := by
  simp [microStep, hf, hd, he, ho, withSeq]

theorem microStep_fault {s : State} {f : InFlight} {c : FaultCause} (hf : s.inflight = some f) (hd : f.done = false)
    (he : f.extraLeft = 0) (ho : ownStep f s = .error c) : microStep s = raiseFault c s := by
  simp [microStep, hf, hd, he, ho]

theorem microStep_idle {s : State} (h : s.busy = false) : microStep s = { s with result := some (.stepped true) } := by
  unfold State.busy at h
  unfold microStep
  split at h <;> simp_all

/-- The extra steps of a run only count. -/
theorem runSteps_extra (n fuel t : Nat) (f : InFlight) (r : Option Result) (s : State) (hd : f.done = false) :
    ∃ q, runSteps (n + fuel) t (withSeq (some { f with extraLeft := n }) r s) =
      runSteps fuel (t + n) (withSeq (some { f with extraLeft := 0 }) q s) := by
  induction n generalizing t r with
  | zero => exact ⟨r, by simp⟩
  | succ n ih =>
    obtain ⟨q, hq⟩ := ih (t + 1) (some (.stepped false))
    refine ⟨q, ?_⟩
    have hs := microStep_extra (s := withSeq (some { f with extraLeft := n + 1 }) r s)
      (f := { f with extraLeft := n + 1 }) (n := n) rfl hd rfl
    rw [show n + 1 + fuel = (n + fuel) + 1 by omega, runSteps, hs]
    simp only [withSeq_withSeq, withSeq_result]
    rw [hq, show t + 1 + n = t + (n + 1) by omega]

/-- A run whose next own step completes the operation. -/
theorem runSteps_last {fuel t : Nat} {s u : State} {f g : InFlight} {q : Option Result} (hd : f.done = false)
    (he : f.extraLeft = 0) (ho : ownStep f s = .ok (u, g)) (hg : g.done = true) :
    runSteps (fuel + 1) t (withSeq (some f) q s) =
      withSeq (some { g with k := f.k + 1 }) (some (.completed (t + 1))) u := by
  have ho' : ownStep f (withSeq (some f) q s) = .ok (withSeq (some f) q u, g) := by
    rw [ownStep_withSeq, ho]; rfl
  have hm := microStep_own (s := withSeq (some f) q s) rfl hd he ho'
  rw [runSteps, hm]
  simp [hg, withSeq]

/-- A run whose next own step faults. -/
theorem runSteps_fault {fuel t : Nat} {s : State} {f : InFlight} {c : FaultCause} {q : Option Result}
    (hd : f.done = false) (he : f.extraLeft = 0) (ho : ownStep f s = .error c) :
    runSteps (fuel + 1) t (withSeq (some f) q s) = raiseFault c s := by
  have ho' : ownStep f (withSeq (some f) q s) = .error c := by rw [ownStep_withSeq, ho]; rfl
  have hm := microStep_fault (s := withSeq (some f) q s) rfl hd he ho'
  rw [runSteps, hm]
  rfl

/-- A run whose next own step does not complete the operation. -/
theorem runSteps_more {fuel t : Nat} {s u : State} {f g : InFlight} {q : Option Result} (hd : f.done = false)
    (he : f.extraLeft = 0) (ho : ownStep f s = .ok (u, g)) (hg : g.done = false) :
    runSteps (fuel + 1) t (withSeq (some f) q s) =
      runSteps fuel (t + 1) (withSeq (some { g with k := f.k + 1 }) (some (.stepped false)) u) := by
  have ho' : ownStep f (withSeq (some f) q s) = .ok (withSeq (some f) q u, g) := by
    rw [ownStep_withSeq, ho]; rfl
  have hm := microStep_own (s := withSeq (some f) q s) rfl hd he ho'
  rw [runSteps, hm]
  simp [hg]

/-- What `issue` does in Run mode: the extra steps count, then the own steps run. -/
theorem issue_run {op : Op} {imm : List Byte} {extra : Nat} {s : State} (hm : s.mode = .run) :
    ∃ q, issue op imm extra s = .next (runSteps 2 extra (withSeq (some (startInFlight op imm 0)) q s)) := by
  obtain ⟨q, hq⟩ := runSteps_extra extra 2 0 (startInFlight op imm 0) s.result s rfl
  refine ⟨q, ?_⟩
  rw [Nat.zero_add] at hq
  unfold issue
  split
  · next hh => rw [hm] at hh; cases hh
  · exact congrArg Host.Outcome.next hq

/-- A one-step operation in Run mode. -/
theorem issue_run_one {op : Op} {imm : List Byte} {extra : Nat} {s u : State} {g : InFlight} (hm : s.mode = .run)
    (ho : ownStep (startInFlight op imm 0) s = .ok (u, g)) (hg : g.done = true) :
    issue op imm extra s = .next (withSeq (some { g with k := 1 }) (some (.completed (extra + 1))) u) := by
  obtain ⟨q, hq⟩ := issue_run (op := op) (imm := imm) (extra := extra) hm
  rw [hq, runSteps_last rfl rfl ho hg]
  rfl

/-- A one-step operation in Run mode whose access is out of range. -/
theorem issue_run_fault {op : Op} {imm : List Byte} {extra : Nat} {s : State} {c : FaultCause} (hm : s.mode = .run)
    (ho : ownStep (startInFlight op imm 0) s = .error c) : issue op imm extra s = .next (raiseFault c s) := by
  obtain ⟨q, hq⟩ := issue_run (op := op) (imm := imm) (extra := extra) hm
  rw [hq, runSteps_fault rfl rfl ho]

/-- A two-step operation in Run mode. -/
theorem issue_run_two {op : Op} {imm : List Byte} {extra : Nat} {s u v : State} {g k : InFlight} (hm : s.mode = .run)
    (ho : ownStep (startInFlight op imm 0) s = .ok (u, g)) (hg : g.done = false)
    (hk : ownStep { g with k := 1 } u = .ok (v, k)) (hkd : k.done = true) :
    issue op imm extra s = .next (withSeq (some { k with k := 2 }) (some (.completed (extra + 2))) v) := by
  obtain ⟨q, hq⟩ := issue_run (op := op) (imm := imm) (extra := extra) hm
  have hx : g.extraLeft = 0 := (ownStep_frame ho).extraLeft
  rw [hq, runSteps_more rfl rfl ho hg]
  exact congrArg Host.Outcome.next (runSteps_last (f := { g with k := 1 }) hg hx hk hkd)

/-- `issue` in Hand mode puts the record in flight and runs no step. -/
theorem issue_hand {op : Op} {imm : List Byte} {extra : Nat} {s : State} (hm : s.mode = .hand) :
    issue op imm extra s = .next (withSeq (some (startInFlight op imm extra)) (some (.decoded s.view)) s) := by
  simp [issue, hm, withSeq]

end Sys2Proof.Machine
end

