-- ==== Sys2Proof/Laws/Exec.lean ====
section
/-! SUPPORT. What a whole step can do, said once: when own steps fault and when they complete, which instruction issues what, and how a
property passes through a run, a command and a step of the machine. -/

namespace Sys2Proof.Machine

/-! ### When an own step faults (60_exceptions.md R166) -/

/-- A fault cause that names an address outside the storage. -/
def IsOutOfRange (s : State) (c : FaultCause) : Prop := ∃ a : Word, c = .outOfRange a ∧ s.memSize ≤ a.toNat

theorem readSlot_error {sl : Slot} {s : State} {c : FaultCause} (h : readSlot sl s = .error c) : IsOutOfRange s c := by
  cases sl <;> first
    | cases h
    | (obtain ⟨h1, h2⟩ := memRead_error h; exact ⟨_, h2, h1⟩)

theorem writeSlot_error {sl : Slot} {v : Byte} {s : State} {c : FaultCause} (h : writeSlot sl v s = .error c) :
    IsOutOfRange s c := by
  cases sl <;> first
    | cases h
    | (obtain ⟨h1, h2⟩ := memWrite_error h; exact ⟨_, h2, h1⟩)

theorem readSrc_error {x : Src} {s : State} {c : FaultCause} (h : readSrc x s = .error c) : IsOutOfRange s c := by
  rcases x with (sl | ⟨p, po⟩) | d
  · simp only [readSrc, readLoc] at h
    split at h
    · next hh => cases h; exact readSlot_error hh
    · cases h
  · simp only [readSrc, readLoc] at h
    split at h
    · next hh =>
      cases h
      obtain ⟨h1, h2⟩ := memRead_error hh
      exact ⟨_, h2, (dereference_spec p po s).1.memSize ▸ h1⟩
    · cases h
  · cases h

theorem writeLoc_error {x : Loc} {v : Byte} {s : State} {c : FaultCause} (h : writeLoc x v s = .error c) :
    IsOutOfRange s c := by
  cases x with
  | slot sl => exact writeSlot_error h
  | ind p po =>
    obtain ⟨h1, h2⟩ := memWrite_error h
    exact ⟨_, h2, (dereference_spec p po s).1.memSize ▸ h1⟩

/-- An own step faults only on an access outside the storage. -/
theorem ownStep_error {f : InFlight} {s : State} {c : FaultCause} (h : ownStep f s = .error c) : IsOutOfRange s c := by
  cases ho : f.op <;> simp only [ownStep, ho] at h
  all_goals try simp only [stepIncrease, stepDecrease, stepRotateFast, stepRotateNormal, stepLoad, stepAlu,
    stepLoad16, stepJr, stepInc16, stepDec16, stepPush, stepPop, stepJrcc] at h
  all_goals repeat' (split at h)
  all_goals first
    | contradiction
    | (cases h; exact readSlot_error ‹_›)
    | (cases h; exact readSrc_error ‹_›)
    | (cases h; exact writeSlot_error ‹_›)
    | skip
  · next h1 _ _ h2 =>
    cases h
    obtain ⟨a, h3, h4⟩ := writeLoc_error h2
    exact ⟨a, h3, (readSrc_spec h1).1.memSize ▸ h4⟩
  · next h2 => cases h; obtain ⟨h3, h4⟩ := memWrite_error h2; exact ⟨_, h4, h3⟩
  · next h2 => cases h; obtain ⟨h3, h4⟩ := memWrite_error h2; exact ⟨_, h4, h3⟩
  · next h2 => cases h; obtain ⟨h3, h4⟩ := memRead_error h2; exact ⟨_, h4, h3⟩

/-! ### When an own step completes the operation (40_sequencer.md R83) -/

/-- The own step of a one-step operation reports completion. -/
theorem ownStep_done_of_oneStep {f g : InFlight} {s t : State} (h : ownStep f s = .ok (t, g))
    (h2 : f.op.twoSteps = false) : g.done = true := by
  cases ho : f.op <;> (rw [ho] at h2; first | (exfalso; exact absurd h2 Bool.noConfusion) | simp only [ownStep, ho] at h)
  all_goals simp only [stepIncrease, stepDecrease, stepRotateFast, stepRotateNormal, stepLoad, stepAlu, stepLoad16,
    stepJr] at h
  all_goals repeat' (split at h)
  all_goals first
    | contradiction
    | (simp only [Except.ok.injEq, Prod.mk.injEq] at h; rw [← h.2]; rfl)

/-- An own step after the first reports completion. -/
theorem ownStep_done_of_later {f g : InFlight} {s t : State} (h : ownStep f s = .ok (t, g)) (hk : f.k ≠ 0) :
    g.done = true := by
  cases h2 : f.op.twoSteps
  · exact ownStep_done_of_oneStep h h2
  · obtain ⟨k, hk'⟩ : ∃ k, f.k = k + 1 := ⟨_, (Nat.succ_pred hk).symm⟩
    cases ho : f.op <;> (rw [ho] at h2; first | (exfalso; exact absurd h2 Bool.noConfusion) | simp only [ownStep, ho] at h)
    all_goals simp only [stepInc16, stepDec16, stepPush, stepPop, stepJrcc, hk'] at h
    all_goals repeat' (split at h)
    all_goals first
      | contradiction
      | (simp only [Except.ok.injEq, Prod.mk.injEq] at h; rw [← h.2]; rfl)

/-! ### Commands -/

theorem stepCommand_eq {s : State} (h : s.fault = none) : stepCommand s = microStep s := by
  unfold stepCommand
  rw [h]
  rfl

/-- The cases of one micro-step: nothing to step, an extra step, an own step, an own step that faults. -/
theorem microStep_cases (s : State) :
    (s.busy = false ∧ microStep s = { s with result := some (.stepped true) }) ∨
    ∃ f, s.inflight = some f ∧ f.done = false ∧
      ((∃ n, f.extraLeft = n + 1 ∧
          microStep s = withSeq (some { f with extraLeft := n }) (some (.stepped false)) s) ∨
        (f.extraLeft = 0 ∧ ∃ t g, ownStep f s = .ok (t, g) ∧
          microStep s = withSeq (some { g with k := f.k + 1 }) (some (.stepped g.done)) t) ∨
        (f.extraLeft = 0 ∧ ∃ c, ownStep f s = .error c ∧ microStep s = raiseFault c s)) := by
  by_cases hb : s.busy = false
  · exact .inl ⟨hb, microStep_idle hb⟩
  · cases hf : s.inflight with
    | none => exact absurd (by simp [State.busy, hf]) hb
    | some f =>
      have hd : f.done = false := by simpa [State.busy, hf] using hb
      refine .inr ⟨f, rfl, hd, ?_⟩
      cases he : f.extraLeft with
      | succ n => exact .inl ⟨n, rfl, microStep_extra hf hd he⟩
      | zero =>
        cases ho : ownStep f s with
        | error c => exact .inr (.inr ⟨rfl, c, rfl, microStep_fault hf hd he ho⟩)
        | ok tg => exact .inr (.inl ⟨rfl, tg.1, tg.2, rfl, microStep_own hf hd he ho⟩)

/-- A fetch byte moves PC by one, or faults on the address at PC with the state as it is. -/
theorem fetchByte_ok {s t : State} {v : Byte} (h : fetchByte s = .ok (v, t)) : t = { s with pc := s.pc + 1 } := by
  unfold fetchByte at h
  split at h
  · cases h
  · cases h; rfl

theorem fetchByte_error {s t : State} {c : FaultCause} (h : fetchByte s = .error (c, t)) :
    c = .outOfRange s.pc ∧ s.memSize ≤ s.pc.toNat ∧ t = s := by
  unfold fetchByte at h
  split at h
  · next hh => cases h; obtain ⟨h1, h2⟩ := memRead_error hh; exact ⟨h2, h1, rfl⟩
  · cases h

theorem fetchOperands_ok {n : Nat} {s t : State} {vs : List Byte} (h : fetchOperands n s = .ok (vs, t)) :
    vs.length = n ∧ ∃ a : Word, t = { s with pc := a } := by
  induction n generalizing s t vs with
  | zero => cases h; exact ⟨rfl, s.pc, rfl⟩
  | succ n ih =>
    simp only [fetchOperands] at h
    split at h
    · cases h
    · next hh =>
      have := fetchByte_ok hh; subst this
      split at h
      · cases h
      · next h2 => cases h; obtain ⟨h3, a, rfl⟩ := ih h2; exact ⟨by simp [h3], a, rfl⟩

theorem fetchOperands_error {n : Nat} {s t : State} {c : FaultCause} (h : fetchOperands n s = .error (c, t)) :
    ∃ a : Word, c = .outOfRange a ∧ s.memSize ≤ a.toNat ∧ t = { s with pc := a } := by
  induction n generalizing s t with
  | zero => cases h
  | succ n ih =>
    simp only [fetchOperands] at h
    split at h
    · next hh => cases h; obtain ⟨h1, h2, h3⟩ := fetchByte_error hh; subst h3; exact ⟨_, h1, h2, rfl⟩
    · next hh =>
      have := fetchByte_ok hh; subst this
      split at h
      · next h2 => cases h; obtain ⟨a, h1, h3, h4⟩ := ih h2; exact ⟨a, h1, h3, h4⟩
      · cases h

/-- A fetch writes PC and the view, and answers as many operand bytes as R69 gives the opcode. -/
theorem fetch_ok {s t : State} {o : Byte} {operands : List Byte} (h : fetch s = .ok (o, operands, t)) :
    operands.length = argumentCount o ∧
      ∃ a : Word, t = { s with pc := a, view := some ⟨o, argumentCount o, operands⟩ } := by
  unfold fetch at h
  split at h
  · cases h
  · next hh =>
    have := fetchByte_ok hh; subst this
    split at h
    · cases h
    · next h2 => cases h; obtain ⟨h3, a, rfl⟩ := fetchOperands_ok h2; exact ⟨h3, a, rfl⟩

/-! ### Instructions -/

/-- The operation is one an opcode reaches, and with its extra steps it takes at most three steps (40_sequencer.md R85). -/
def Op.Issuable (op : Op) (extra : Nat) : Prop := op.reachable = true ∧ extra + (if op.twoSteps then 2 else 1) ≤ 3

/-- Every instruction is an unimplemented one or issues one operation with its own operand bytes. -/
theorem exec_cases (i : Instr) :
    (∃ o operands, i = .unimplemented o operands) ∨
      ∃ op extra, op.Issuable extra ∧ ∀ s, exec i s = issue op (operandBytes i) extra s := by
  cases i <;> first
    | exact .inl ⟨_, _, rfl⟩
    | exact .inr ⟨_, _, ⟨rfl, Nat.le_of_ble_eq_true rfl⟩, fun s => rfl⟩

/-- A property that every micro-step keeps and that does not look at the result passes through a run. -/
theorem runSteps_keeps {P : State → Prop} (hm : ∀ s, P s → P (microStep s))
    (hr : ∀ (s : State) (r : Option Result), P s → P { s with result := r }) {n t : Nat} {s : State} (h : P s) :
    P (runSteps n t s) := by
  induction n generalizing t s with
  | zero => exact h
  | succ n ih =>
    unfold runSteps
    split
    · exact ih (hm s h)
    · exact hr _ _ (hm s h)
    · exact hm s h

/-- A property that the start of an instruction and every micro-step keep, and that does not look at the result, passes through `issue`. -/
theorem issue_keeps {P : State → Prop} (hm : ∀ s, P s → P (microStep s))
    (hr : ∀ (s : State) (r : Option Result), P s → P { s with result := r }) {op : Op} {imm : List Byte} {extra : Nat}
    {s t : State} (hs : P { s with inflight := some (startInFlight op imm extra) }) (h : issue op imm extra s = .next t) :
    P t := by
  unfold issue at h
  split at h
  · cases h; exact hr _ _ hs
  · cases h; exact runSteps_keeps hm hr hs

/-- The cases of CYCLE: declined, a fault of the fetch, or the decoded instruction. -/
theorem cycleCommand_cases {m : CycleMode} {s t : State} (h : cycleCommand m s = .next t) :
    (∃ why, t = decline why s) ∨
    (s.accepts ∧ ∃ a : Word, fetch s = .error (.outOfRange a, { s with pc := a }) ∧ s.memSize ≤ a.toNat ∧
      t = raiseFault (.outOfRange a) { s with pc := a }) ∨
    (s.accepts ∧ ∃ o operands a, operands.length = argumentCount o ∧
      exec (decodeOpcode o operands)
        { s with pc := a, view := some ⟨o, argumentCount o, operands⟩, mode := m } = .next t) := by
  unfold cycleCommand at h
  split at h
  · cases h; exact .inl ⟨_, rfl⟩
  · next hf =>
    split at h
    · cases h; exact .inl ⟨_, rfl⟩
    · next hb =>
      have ha : s.accepts := ⟨by simpa using hf, by simpa using hb⟩
      split at h
      · next c s1 hx =>
        cases h
        unfold fetch at hx
        split at hx
        · next hh =>
          cases hx; obtain ⟨rfl, h2, rfl⟩ := fetchByte_error hh
          refine .inr (.inl ⟨ha, s1.pc, ?_, h2, rfl⟩)
          simp [fetch, hh]
        · next hh =>
          have := fetchByte_ok hh; subst this
          split at hx
          · next h2 =>
            cases hx; obtain ⟨a, rfl, h3, rfl⟩ := fetchOperands_error h2
            refine .inr (.inl ⟨ha, a, ?_, h3, rfl⟩)
            simp only [fetch, hh, h2]
          · cases hx
      · next hx =>
        obtain ⟨h1, a, rfl⟩ := fetch_ok hx
        exact .inr (.inr ⟨ha, _, _, a, h1, h⟩)

end Sys2Proof.Machine
end

