-- ==== Sys2Proof/Laws/PerInstr.lean ====
section
/-! SUPPORT. Statements about every instruction as syntax, one lemma per constructor. -/

namespace Sys2Proof.Laws

/-- A well-formed instruction is one opcode byte and as many operand bytes as R69 gives its opcode (30_encoding.md R60). -/
def EncodedLength.Statement (i : Instr) : Prop :=
  i.wellFormed = true → (encode i).length = 1 + argumentCount (opcode i)

theorem EncodedLength.ldBC_d16 (d16 : Word) : EncodedLength.Statement (.ldBC_d16 d16) :=
  fun _ => (by decide : 3 = 1 + argumentCount 0x01)
theorem EncodedLength.ldIndBC_A : EncodedLength.Statement .ldIndBC_A :=
  fun _ => (by decide : 1 = 1 + argumentCount 0x02)
theorem EncodedLength.incBC : EncodedLength.Statement .incBC :=
  fun _ => (by decide : 1 = 1 + argumentCount 0x03)
theorem EncodedLength.incB : EncodedLength.Statement .incB :=
  fun _ => (by decide : 1 = 1 + argumentCount 0x04)
theorem EncodedLength.decB : EncodedLength.Statement .decB :=
  fun _ => (by decide : 1 = 1 + argumentCount 0x05)
theorem EncodedLength.ldB_d8 (d8 : Byte) : EncodedLength.Statement (.ldB_d8 d8) :=
  fun _ => (by decide : 2 = 1 + argumentCount 0x06)
theorem EncodedLength.rlca : EncodedLength.Statement .rlca :=
  fun _ => (by decide : 1 = 1 + argumentCount 0x07)
theorem EncodedLength.ldA_IndBC : EncodedLength.Statement .ldA_IndBC :=
  fun _ => (by decide : 1 = 1 + argumentCount 0x0A)
theorem EncodedLength.decBC : EncodedLength.Statement .decBC :=
  fun _ => (by decide : 1 = 1 + argumentCount 0x0B)
theorem EncodedLength.incC : EncodedLength.Statement .incC :=
  fun _ => (by decide : 1 = 1 + argumentCount 0x0C)
theorem EncodedLength.decC : EncodedLength.Statement .decC :=
  fun _ => (by decide : 1 = 1 + argumentCount 0x0D)
theorem EncodedLength.ldC_d8 (d8 : Byte) : EncodedLength.Statement (.ldC_d8 d8) :=
  fun _ => (by decide : 2 = 1 + argumentCount 0x0E)
theorem EncodedLength.rrca : EncodedLength.Statement .rrca :=
  fun _ => (by decide : 1 = 1 + argumentCount 0x0F)
theorem EncodedLength.ldDE_d16 (d16 : Word) : EncodedLength.Statement (.ldDE_d16 d16) :=
  fun _ => (by decide : 3 = 1 + argumentCount 0x11)
theorem EncodedLength.ldIndDE_A : EncodedLength.Statement .ldIndDE_A :=
  fun _ => (by decide : 1 = 1 + argumentCount 0x12)
theorem EncodedLength.incDE : EncodedLength.Statement .incDE :=
  fun _ => (by decide : 1 = 1 + argumentCount 0x13)
theorem EncodedLength.incD : EncodedLength.Statement .incD :=
  fun _ => (by decide : 1 = 1 + argumentCount 0x14)
theorem EncodedLength.decD : EncodedLength.Statement .decD :=
  fun _ => (by decide : 1 = 1 + argumentCount 0x15)
theorem EncodedLength.ldD_d8 (d8 : Byte) : EncodedLength.Statement (.ldD_d8 d8) :=
  fun _ => (by decide : 2 = 1 + argumentCount 0x16)
theorem EncodedLength.jr_e8 (e8 : Byte) : EncodedLength.Statement (.jr_e8 e8) :=
  fun _ => (by decide : 2 = 1 + argumentCount 0x18)
theorem EncodedLength.ldA_IndDE : EncodedLength.Statement .ldA_IndDE :=
  fun _ => (by decide : 1 = 1 + argumentCount 0x1A)
theorem EncodedLength.decDE : EncodedLength.Statement .decDE :=
  fun _ => (by decide : 1 = 1 + argumentCount 0x1B)
theorem EncodedLength.incE : EncodedLength.Statement .incE :=
  fun _ => (by decide : 1 = 1 + argumentCount 0x1C)
theorem EncodedLength.decE : EncodedLength.Statement .decE :=
  fun _ => (by decide : 1 = 1 + argumentCount 0x1D)
theorem EncodedLength.ldE_d8 (d8 : Byte) : EncodedLength.Statement (.ldE_d8 d8) :=
  fun _ => (by decide : 2 = 1 + argumentCount 0x1E)
theorem EncodedLength.jrNZ_e8 (e8 : Byte) : EncodedLength.Statement (.jrNZ_e8 e8) :=
  fun _ => (by decide : 2 = 1 + argumentCount 0x20)
theorem EncodedLength.ldHL_d16 (d16 : Word) : EncodedLength.Statement (.ldHL_d16 d16) :=
  fun _ => (by decide : 3 = 1 + argumentCount 0x21)
theorem EncodedLength.ldIndHLInc_A : EncodedLength.Statement .ldIndHLInc_A :=
  fun _ => (by decide : 1 = 1 + argumentCount 0x22)
theorem EncodedLength.incHL : EncodedLength.Statement .incHL :=
  fun _ => (by decide : 1 = 1 + argumentCount 0x23)
theorem EncodedLength.incH : EncodedLength.Statement .incH :=
  fun _ => (by decide : 1 = 1 + argumentCount 0x24)
theorem EncodedLength.decH : EncodedLength.Statement .decH :=
  fun _ => (by decide : 1 = 1 + argumentCount 0x25)
theorem EncodedLength.ldH_d8 (d8 : Byte) : EncodedLength.Statement (.ldH_d8 d8) :=
  fun _ => (by decide : 2 = 1 + argumentCount 0x26)
theorem EncodedLength.jrZ_e8 (e8 : Byte) : EncodedLength.Statement (.jrZ_e8 e8) :=
  fun _ => (by decide : 2 = 1 + argumentCount 0x28)
theorem EncodedLength.ldA_IndHLInc : EncodedLength.Statement .ldA_IndHLInc :=
  fun _ => (by decide : 1 = 1 + argumentCount 0x2A)
theorem EncodedLength.decHL : EncodedLength.Statement .decHL :=
  fun _ => (by decide : 1 = 1 + argumentCount 0x2B)
theorem EncodedLength.incL : EncodedLength.Statement .incL :=
  fun _ => (by decide : 1 = 1 + argumentCount 0x2C)
theorem EncodedLength.decL : EncodedLength.Statement .decL :=
  fun _ => (by decide : 1 = 1 + argumentCount 0x2D)
theorem EncodedLength.ldL_d8 (d8 : Byte) : EncodedLength.Statement (.ldL_d8 d8) :=
  fun _ => (by decide : 2 = 1 + argumentCount 0x2E)
theorem EncodedLength.jrNC_e8 (e8 : Byte) : EncodedLength.Statement (.jrNC_e8 e8) :=
  fun _ => (by decide : 2 = 1 + argumentCount 0x30)
theorem EncodedLength.ldSP_d16 (d16 : Word) : EncodedLength.Statement (.ldSP_d16 d16) :=
  fun _ => (by decide : 3 = 1 + argumentCount 0x31)
theorem EncodedLength.ldIndHLDec_A : EncodedLength.Statement .ldIndHLDec_A :=
  fun _ => (by decide : 1 = 1 + argumentCount 0x32)
theorem EncodedLength.incSP : EncodedLength.Statement .incSP :=
  fun _ => (by decide : 1 = 1 + argumentCount 0x33)
theorem EncodedLength.incIndHL : EncodedLength.Statement .incIndHL :=
  fun _ => (by decide : 1 = 1 + argumentCount 0x34)
theorem EncodedLength.decIndHL : EncodedLength.Statement .decIndHL :=
  fun _ => (by decide : 1 = 1 + argumentCount 0x35)
theorem EncodedLength.ldIndHL_d8 (d8 : Byte) : EncodedLength.Statement (.ldIndHL_d8 d8) :=
  fun _ => (by decide : 2 = 1 + argumentCount 0x36)
theorem EncodedLength.jrC_e8 (e8 : Byte) : EncodedLength.Statement (.jrC_e8 e8) :=
  fun _ => (by decide : 2 = 1 + argumentCount 0x38)
theorem EncodedLength.ldA_IndHLDec : EncodedLength.Statement .ldA_IndHLDec :=
  fun _ => (by decide : 1 = 1 + argumentCount 0x3A)
theorem EncodedLength.decSP : EncodedLength.Statement .decSP :=
  fun _ => (by decide : 1 = 1 + argumentCount 0x3B)
theorem EncodedLength.incA : EncodedLength.Statement .incA :=
  fun _ => (by decide : 1 = 1 + argumentCount 0x3C)
theorem EncodedLength.decA : EncodedLength.Statement .decA :=
  fun _ => (by decide : 1 = 1 + argumentCount 0x3D)
theorem EncodedLength.ldA_d8 (d8 : Byte) : EncodedLength.Statement (.ldA_d8 d8) :=
  fun _ => (by decide : 2 = 1 + argumentCount 0x3E)
theorem EncodedLength.ldB_B : EncodedLength.Statement .ldB_B :=
  fun _ => (by decide : 1 = 1 + argumentCount 0x40)
theorem EncodedLength.ldB_C : EncodedLength.Statement .ldB_C :=
  fun _ => (by decide : 1 = 1 + argumentCount 0x41)
theorem EncodedLength.ldB_D : EncodedLength.Statement .ldB_D :=
  fun _ => (by decide : 1 = 1 + argumentCount 0x42)
theorem EncodedLength.ldB_E : EncodedLength.Statement .ldB_E :=
  fun _ => (by decide : 1 = 1 + argumentCount 0x43)
theorem EncodedLength.ldB_H : EncodedLength.Statement .ldB_H :=
  fun _ => (by decide : 1 = 1 + argumentCount 0x44)
theorem EncodedLength.ldB_L : EncodedLength.Statement .ldB_L :=
  fun _ => (by decide : 1 = 1 + argumentCount 0x45)
theorem EncodedLength.ldB_IndHL : EncodedLength.Statement .ldB_IndHL :=
  fun _ => (by decide : 1 = 1 + argumentCount 0x46)
theorem EncodedLength.ldB_A : EncodedLength.Statement .ldB_A :=
  fun _ => (by decide : 1 = 1 + argumentCount 0x47)
theorem EncodedLength.ldC_B : EncodedLength.Statement .ldC_B :=
  fun _ => (by decide : 1 = 1 + argumentCount 0x48)
theorem EncodedLength.ldC_C : EncodedLength.Statement .ldC_C :=
  fun _ => (by decide : 1 = 1 + argumentCount 0x49)
theorem EncodedLength.ldC_D : EncodedLength.Statement .ldC_D :=
  fun _ => (by decide : 1 = 1 + argumentCount 0x4A)
theorem EncodedLength.ldC_E : EncodedLength.Statement .ldC_E :=
  fun _ => (by decide : 1 = 1 + argumentCount 0x4B)
theorem EncodedLength.ldC_H : EncodedLength.Statement .ldC_H :=
  fun _ => (by decide : 1 = 1 + argumentCount 0x4C)
theorem EncodedLength.ldC_L : EncodedLength.Statement .ldC_L :=
  fun _ => (by decide : 1 = 1 + argumentCount 0x4D)
theorem EncodedLength.ldC_IndHL : EncodedLength.Statement .ldC_IndHL :=
  fun _ => (by decide : 1 = 1 + argumentCount 0x4E)
theorem EncodedLength.ldC_A : EncodedLength.Statement .ldC_A :=
  fun _ => (by decide : 1 = 1 + argumentCount 0x4F)
theorem EncodedLength.ldD_B : EncodedLength.Statement .ldD_B :=
  fun _ => (by decide : 1 = 1 + argumentCount 0x50)
theorem EncodedLength.ldD_C : EncodedLength.Statement .ldD_C :=
  fun _ => (by decide : 1 = 1 + argumentCount 0x51)
theorem EncodedLength.ldD_D : EncodedLength.Statement .ldD_D :=
  fun _ => (by decide : 1 = 1 + argumentCount 0x52)
theorem EncodedLength.ldD_E : EncodedLength.Statement .ldD_E :=
  fun _ => (by decide : 1 = 1 + argumentCount 0x53)
theorem EncodedLength.ldD_H : EncodedLength.Statement .ldD_H :=
  fun _ => (by decide : 1 = 1 + argumentCount 0x54)
theorem EncodedLength.ldD_L : EncodedLength.Statement .ldD_L :=
  fun _ => (by decide : 1 = 1 + argumentCount 0x55)
theorem EncodedLength.ldD_IndHL : EncodedLength.Statement .ldD_IndHL :=
  fun _ => (by decide : 1 = 1 + argumentCount 0x56)
theorem EncodedLength.ldD_A : EncodedLength.Statement .ldD_A :=
  fun _ => (by decide : 1 = 1 + argumentCount 0x57)
theorem EncodedLength.ldE_B : EncodedLength.Statement .ldE_B :=
  fun _ => (by decide : 1 = 1 + argumentCount 0x58)
theorem EncodedLength.ldE_C : EncodedLength.Statement .ldE_C :=
  fun _ => (by decide : 1 = 1 + argumentCount 0x59)
theorem EncodedLength.ldE_D : EncodedLength.Statement .ldE_D :=
  fun _ => (by decide : 1 = 1 + argumentCount 0x5A)
theorem EncodedLength.ldE_E : EncodedLength.Statement .ldE_E :=
  fun _ => (by decide : 1 = 1 + argumentCount 0x5B)
theorem EncodedLength.ldE_H : EncodedLength.Statement .ldE_H :=
  fun _ => (by decide : 1 = 1 + argumentCount 0x5C)
theorem EncodedLength.ldE_L : EncodedLength.Statement .ldE_L :=
  fun _ => (by decide : 1 = 1 + argumentCount 0x5D)
theorem EncodedLength.ldE_IndHL : EncodedLength.Statement .ldE_IndHL :=
  fun _ => (by decide : 1 = 1 + argumentCount 0x5E)
theorem EncodedLength.ldE_A : EncodedLength.Statement .ldE_A :=
  fun _ => (by decide : 1 = 1 + argumentCount 0x5F)
theorem EncodedLength.ldH_B : EncodedLength.Statement .ldH_B :=
  fun _ => (by decide : 1 = 1 + argumentCount 0x60)
theorem EncodedLength.ldH_C : EncodedLength.Statement .ldH_C :=
  fun _ => (by decide : 1 = 1 + argumentCount 0x61)
theorem EncodedLength.ldH_D : EncodedLength.Statement .ldH_D :=
  fun _ => (by decide : 1 = 1 + argumentCount 0x62)
theorem EncodedLength.ldH_E : EncodedLength.Statement .ldH_E :=
  fun _ => (by decide : 1 = 1 + argumentCount 0x63)
theorem EncodedLength.ldH_H : EncodedLength.Statement .ldH_H :=
  fun _ => (by decide : 1 = 1 + argumentCount 0x64)
theorem EncodedLength.ldH_L : EncodedLength.Statement .ldH_L :=
  fun _ => (by decide : 1 = 1 + argumentCount 0x65)
theorem EncodedLength.ldH_IndHL : EncodedLength.Statement .ldH_IndHL :=
  fun _ => (by decide : 1 = 1 + argumentCount 0x66)
theorem EncodedLength.ldH_A : EncodedLength.Statement .ldH_A :=
  fun _ => (by decide : 1 = 1 + argumentCount 0x67)
theorem EncodedLength.ldL_B : EncodedLength.Statement .ldL_B :=
  fun _ => (by decide : 1 = 1 + argumentCount 0x68)
theorem EncodedLength.ldL_C : EncodedLength.Statement .ldL_C :=
  fun _ => (by decide : 1 = 1 + argumentCount 0x69)
theorem EncodedLength.ldL_D : EncodedLength.Statement .ldL_D :=
  fun _ => (by decide : 1 = 1 + argumentCount 0x6A)
theorem EncodedLength.ldL_E : EncodedLength.Statement .ldL_E :=
  fun _ => (by decide : 1 = 1 + argumentCount 0x6B)
theorem EncodedLength.ldL_H : EncodedLength.Statement .ldL_H :=
  fun _ => (by decide : 1 = 1 + argumentCount 0x6C)
theorem EncodedLength.ldL_L : EncodedLength.Statement .ldL_L :=
  fun _ => (by decide : 1 = 1 + argumentCount 0x6D)
theorem EncodedLength.ldL_IndHL : EncodedLength.Statement .ldL_IndHL :=
  fun _ => (by decide : 1 = 1 + argumentCount 0x6E)
theorem EncodedLength.ldL_A : EncodedLength.Statement .ldL_A :=
  fun _ => (by decide : 1 = 1 + argumentCount 0x6F)
theorem EncodedLength.ldIndHL_B : EncodedLength.Statement .ldIndHL_B :=
  fun _ => (by decide : 1 = 1 + argumentCount 0x70)
theorem EncodedLength.ldIndHL_C : EncodedLength.Statement .ldIndHL_C :=
  fun _ => (by decide : 1 = 1 + argumentCount 0x71)
theorem EncodedLength.ldIndHL_D : EncodedLength.Statement .ldIndHL_D :=
  fun _ => (by decide : 1 = 1 + argumentCount 0x72)
theorem EncodedLength.ldIndHL_E : EncodedLength.Statement .ldIndHL_E :=
  fun _ => (by decide : 1 = 1 + argumentCount 0x73)
theorem EncodedLength.ldIndHL_H : EncodedLength.Statement .ldIndHL_H :=
  fun _ => (by decide : 1 = 1 + argumentCount 0x74)
theorem EncodedLength.ldIndHL_L : EncodedLength.Statement .ldIndHL_L :=
  fun _ => (by decide : 1 = 1 + argumentCount 0x75)
theorem EncodedLength.ldIndHL_A : EncodedLength.Statement .ldIndHL_A :=
  fun _ => (by decide : 1 = 1 + argumentCount 0x77)
theorem EncodedLength.ldA_B : EncodedLength.Statement .ldA_B :=
  fun _ => (by decide : 1 = 1 + argumentCount 0x78)
theorem EncodedLength.ldA_C : EncodedLength.Statement .ldA_C :=
  fun _ => (by decide : 1 = 1 + argumentCount 0x79)
theorem EncodedLength.ldA_D : EncodedLength.Statement .ldA_D :=
  fun _ => (by decide : 1 = 1 + argumentCount 0x7A)
theorem EncodedLength.ldA_E : EncodedLength.Statement .ldA_E :=
  fun _ => (by decide : 1 = 1 + argumentCount 0x7B)
theorem EncodedLength.ldA_H : EncodedLength.Statement .ldA_H :=
  fun _ => (by decide : 1 = 1 + argumentCount 0x7C)
theorem EncodedLength.ldA_L : EncodedLength.Statement .ldA_L :=
  fun _ => (by decide : 1 = 1 + argumentCount 0x7D)
theorem EncodedLength.ldA_IndHL : EncodedLength.Statement .ldA_IndHL :=
  fun _ => (by decide : 1 = 1 + argumentCount 0x7E)
theorem EncodedLength.ldA_A : EncodedLength.Statement .ldA_A :=
  fun _ => (by decide : 1 = 1 + argumentCount 0x7F)
theorem EncodedLength.addA_B : EncodedLength.Statement .addA_B :=
  fun _ => (by decide : 1 = 1 + argumentCount 0x80)
theorem EncodedLength.addA_C : EncodedLength.Statement .addA_C :=
  fun _ => (by decide : 1 = 1 + argumentCount 0x81)
theorem EncodedLength.addA_D : EncodedLength.Statement .addA_D :=
  fun _ => (by decide : 1 = 1 + argumentCount 0x82)
theorem EncodedLength.addA_E : EncodedLength.Statement .addA_E :=
  fun _ => (by decide : 1 = 1 + argumentCount 0x83)
theorem EncodedLength.addA_H : EncodedLength.Statement .addA_H :=
  fun _ => (by decide : 1 = 1 + argumentCount 0x84)
theorem EncodedLength.addA_L : EncodedLength.Statement .addA_L :=
  fun _ => (by decide : 1 = 1 + argumentCount 0x85)
theorem EncodedLength.addA_IndHL : EncodedLength.Statement .addA_IndHL :=
  fun _ => (by decide : 1 = 1 + argumentCount 0x86)
theorem EncodedLength.addA_A : EncodedLength.Statement .addA_A :=
  fun _ => (by decide : 1 = 1 + argumentCount 0x87)
theorem EncodedLength.adcA_B : EncodedLength.Statement .adcA_B :=
  fun _ => (by decide : 1 = 1 + argumentCount 0x88)
theorem EncodedLength.adcA_C : EncodedLength.Statement .adcA_C :=
  fun _ => (by decide : 1 = 1 + argumentCount 0x89)
theorem EncodedLength.adcA_D : EncodedLength.Statement .adcA_D :=
  fun _ => (by decide : 1 = 1 + argumentCount 0x8A)
theorem EncodedLength.adcA_E : EncodedLength.Statement .adcA_E :=
  fun _ => (by decide : 1 = 1 + argumentCount 0x8B)
theorem EncodedLength.adcA_H : EncodedLength.Statement .adcA_H :=
  fun _ => (by decide : 1 = 1 + argumentCount 0x8C)
theorem EncodedLength.adcA_L : EncodedLength.Statement .adcA_L :=
  fun _ => (by decide : 1 = 1 + argumentCount 0x8D)
theorem EncodedLength.adcA_IndHL : EncodedLength.Statement .adcA_IndHL :=
  fun _ => (by decide : 1 = 1 + argumentCount 0x8E)
theorem EncodedLength.adcA_A : EncodedLength.Statement .adcA_A :=
  fun _ => (by decide : 1 = 1 + argumentCount 0x8F)
theorem EncodedLength.subA_B : EncodedLength.Statement .subA_B :=
  fun _ => (by decide : 1 = 1 + argumentCount 0x90)
theorem EncodedLength.subA_C : EncodedLength.Statement .subA_C :=
  fun _ => (by decide : 1 = 1 + argumentCount 0x91)
theorem EncodedLength.subA_D : EncodedLength.Statement .subA_D :=
  fun _ => (by decide : 1 = 1 + argumentCount 0x92)
theorem EncodedLength.subA_E : EncodedLength.Statement .subA_E :=
  fun _ => (by decide : 1 = 1 + argumentCount 0x93)
theorem EncodedLength.subA_H : EncodedLength.Statement .subA_H :=
  fun _ => (by decide : 1 = 1 + argumentCount 0x94)
theorem EncodedLength.subA_L : EncodedLength.Statement .subA_L :=
  fun _ => (by decide : 1 = 1 + argumentCount 0x95)
theorem EncodedLength.subA_IndHL : EncodedLength.Statement .subA_IndHL :=
  fun _ => (by decide : 1 = 1 + argumentCount 0x96)
theorem EncodedLength.subA_A : EncodedLength.Statement .subA_A :=
  fun _ => (by decide : 1 = 1 + argumentCount 0x97)
theorem EncodedLength.sbcA_B : EncodedLength.Statement .sbcA_B :=
  fun _ => (by decide : 1 = 1 + argumentCount 0x98)
theorem EncodedLength.sbcA_C : EncodedLength.Statement .sbcA_C :=
  fun _ => (by decide : 1 = 1 + argumentCount 0x99)
theorem EncodedLength.sbcA_D : EncodedLength.Statement .sbcA_D :=
  fun _ => (by decide : 1 = 1 + argumentCount 0x9A)
theorem EncodedLength.sbcA_E : EncodedLength.Statement .sbcA_E :=
  fun _ => (by decide : 1 = 1 + argumentCount 0x9B)
theorem EncodedLength.sbcA_H : EncodedLength.Statement .sbcA_H :=
  fun _ => (by decide : 1 = 1 + argumentCount 0x9C)
theorem EncodedLength.sbcA_L : EncodedLength.Statement .sbcA_L :=
  fun _ => (by decide : 1 = 1 + argumentCount 0x9D)
theorem EncodedLength.sbcA_IndHL : EncodedLength.Statement .sbcA_IndHL :=
  fun _ => (by decide : 1 = 1 + argumentCount 0x9E)
theorem EncodedLength.sbcA_A : EncodedLength.Statement .sbcA_A :=
  fun _ => (by decide : 1 = 1 + argumentCount 0x9F)
theorem EncodedLength.andA_B : EncodedLength.Statement .andA_B :=
  fun _ => (by decide : 1 = 1 + argumentCount 0xA0)
theorem EncodedLength.andA_C : EncodedLength.Statement .andA_C :=
  fun _ => (by decide : 1 = 1 + argumentCount 0xA1)
theorem EncodedLength.andA_D : EncodedLength.Statement .andA_D :=
  fun _ => (by decide : 1 = 1 + argumentCount 0xA2)
theorem EncodedLength.andA_E : EncodedLength.Statement .andA_E :=
  fun _ => (by decide : 1 = 1 + argumentCount 0xA3)
theorem EncodedLength.andA_H : EncodedLength.Statement .andA_H :=
  fun _ => (by decide : 1 = 1 + argumentCount 0xA4)
theorem EncodedLength.andA_L : EncodedLength.Statement .andA_L :=
  fun _ => (by decide : 1 = 1 + argumentCount 0xA5)
theorem EncodedLength.andA_IndHL : EncodedLength.Statement .andA_IndHL :=
  fun _ => (by decide : 1 = 1 + argumentCount 0xA6)
theorem EncodedLength.andA_A : EncodedLength.Statement .andA_A :=
  fun _ => (by decide : 1 = 1 + argumentCount 0xA7)
theorem EncodedLength.xorA_B : EncodedLength.Statement .xorA_B :=
  fun _ => (by decide : 1 = 1 + argumentCount 0xA8)
theorem EncodedLength.xorA_C : EncodedLength.Statement .xorA_C :=
  fun _ => (by decide : 1 = 1 + argumentCount 0xA9)
theorem EncodedLength.xorA_D : EncodedLength.Statement .xorA_D :=
  fun _ => (by decide : 1 = 1 + argumentCount 0xAA)
theorem EncodedLength.xorA_E : EncodedLength.Statement .xorA_E :=
  fun _ => (by decide : 1 = 1 + argumentCount 0xAB)
theorem EncodedLength.xorA_H : EncodedLength.Statement .xorA_H :=
  fun _ => (by decide : 1 = 1 + argumentCount 0xAC)
theorem EncodedLength.xorA_L : EncodedLength.Statement .xorA_L :=
  fun _ => (by decide : 1 = 1 + argumentCount 0xAD)
theorem EncodedLength.xorA_IndHL : EncodedLength.Statement .xorA_IndHL :=
  fun _ => (by decide : 1 = 1 + argumentCount 0xAE)
theorem EncodedLength.xorA_A : EncodedLength.Statement .xorA_A :=
  fun _ => (by decide : 1 = 1 + argumentCount 0xAF)
theorem EncodedLength.orA_B : EncodedLength.Statement .orA_B :=
  fun _ => (by decide : 1 = 1 + argumentCount 0xB0)
theorem EncodedLength.orA_C : EncodedLength.Statement .orA_C :=
  fun _ => (by decide : 1 = 1 + argumentCount 0xB1)
theorem EncodedLength.orA_D : EncodedLength.Statement .orA_D :=
  fun _ => (by decide : 1 = 1 + argumentCount 0xB2)
theorem EncodedLength.orA_E : EncodedLength.Statement .orA_E :=
  fun _ => (by decide : 1 = 1 + argumentCount 0xB3)
theorem EncodedLength.orA_H : EncodedLength.Statement .orA_H :=
  fun _ => (by decide : 1 = 1 + argumentCount 0xB4)
theorem EncodedLength.orA_L : EncodedLength.Statement .orA_L :=
  fun _ => (by decide : 1 = 1 + argumentCount 0xB5)
theorem EncodedLength.orA_IndHL : EncodedLength.Statement .orA_IndHL :=
  fun _ => (by decide : 1 = 1 + argumentCount 0xB6)
theorem EncodedLength.orA_A : EncodedLength.Statement .orA_A :=
  fun _ => (by decide : 1 = 1 + argumentCount 0xB7)
theorem EncodedLength.cpA_B : EncodedLength.Statement .cpA_B :=
  fun _ => (by decide : 1 = 1 + argumentCount 0xB8)
theorem EncodedLength.cpA_C : EncodedLength.Statement .cpA_C :=
  fun _ => (by decide : 1 = 1 + argumentCount 0xB9)
theorem EncodedLength.cpA_D : EncodedLength.Statement .cpA_D :=
  fun _ => (by decide : 1 = 1 + argumentCount 0xBA)
theorem EncodedLength.cpA_E : EncodedLength.Statement .cpA_E :=
  fun _ => (by decide : 1 = 1 + argumentCount 0xBB)
theorem EncodedLength.cpA_H : EncodedLength.Statement .cpA_H :=
  fun _ => (by decide : 1 = 1 + argumentCount 0xBC)
theorem EncodedLength.cpA_L : EncodedLength.Statement .cpA_L :=
  fun _ => (by decide : 1 = 1 + argumentCount 0xBD)
theorem EncodedLength.cpA_IndHL : EncodedLength.Statement .cpA_IndHL :=
  fun _ => (by decide : 1 = 1 + argumentCount 0xBE)
theorem EncodedLength.cpA_A : EncodedLength.Statement .cpA_A :=
  fun _ => (by decide : 1 = 1 + argumentCount 0xBF)
theorem EncodedLength.addA_d8 (d8 : Byte) : EncodedLength.Statement (.addA_d8 d8) :=
  fun _ => (by decide : 2 = 1 + argumentCount 0xC6)
theorem EncodedLength.adcA_d8 (d8 : Byte) : EncodedLength.Statement (.adcA_d8 d8) :=
  fun _ => (by decide : 2 = 1 + argumentCount 0xCE)
theorem EncodedLength.subA_d8 (d8 : Byte) : EncodedLength.Statement (.subA_d8 d8) :=
  fun _ => (by decide : 2 = 1 + argumentCount 0xD6)
theorem EncodedLength.sbcA_d8 (d8 : Byte) : EncodedLength.Statement (.sbcA_d8 d8) :=
  fun _ => (by decide : 2 = 1 + argumentCount 0xDE)
theorem EncodedLength.andA_d8 (d8 : Byte) : EncodedLength.Statement (.andA_d8 d8) :=
  fun _ => (by decide : 2 = 1 + argumentCount 0xE6)
theorem EncodedLength.xorA_d8 (d8 : Byte) : EncodedLength.Statement (.xorA_d8 d8) :=
  fun _ => (by decide : 2 = 1 + argumentCount 0xEE)
theorem EncodedLength.orA_d8 (d8 : Byte) : EncodedLength.Statement (.orA_d8 d8) :=
  fun _ => (by decide : 2 = 1 + argumentCount 0xF6)
theorem EncodedLength.cpA_d8 (d8 : Byte) : EncodedLength.Statement (.cpA_d8 d8) :=
  fun _ => (by decide : 2 = 1 + argumentCount 0xFE)

theorem EncodedLength.unimplemented (o : Byte) (operands : List Byte) :
    EncodedLength.Statement (.unimplemented o operands) := by
  intro h
  have hlen : operands.length = argumentCount o := by
    simp [Instr.wellFormed] at h; exact h.2
  show operands.length + 1 = 1 + argumentCount o
  omega

end Sys2Proof.Laws
end

