-- ==== Sys2Proof/Laws/Writes.lean ====
section
/-! SUPPORT. Which kind of operation can write PC, F, SP and the storage, through an own step and through a whole instruction. -/

namespace Sys2Proof.Machine

/-- A place in the storage. -/
def Loc.inMemory : Loc → Bool
  | .slot sl => sl == .mhl
  | .ind _ _ => true

/-- A place whose access may change SP. -/
def Loc.throughSp : Loc → Bool
  | .slot _ => false
  | .ind p _ => p == .sp

/-- A source whose access may change SP. -/
def Src.throughSp : Src → Bool
  | .loc p => p.throughSp
  | .imm _ => false

/-- The kinds that may write PC (10_state.md R33). -/
def Op.mayJump : Op → Bool
  | .jr _ | .jrcc _ _ => true
  | _ => false

/-- The kinds that may write F (10_state.md R31). -/
def Op.mayWriteFlags : Op → Bool
  | .increase _ | .decrease _ | .rotateFast _ | .rotateNormal _ _ | .alu _ _ => true
  | _ => false

/-- The kinds that may write the storage. -/
def Op.mayStore : Op → Bool
  | .increase sl | .decrease sl | .rotateNormal sl _ => sl == .mhl
  | .load dst _ => dst.inMemory
  | .push _ => true
  | _ => false

/-- The kinds that may write SP (10_state.md R27). -/
def Op.mayWriteSp : Op → Bool
  | .inc16 p | .dec16 p | .load16 p _ => p == .sp
  | .push _ | .pop _ => true
  | .load dst src => dst.throughSp || src.throughSp
  | .alu _ src => src.throughSp
  | _ => false

/-- SP is unchanged. -/
def KeepsSp (s t : State) : Prop := t.sph = s.sph ∧ t.spl = s.spl

theorem dereference_keepsSp {p : Pair} {post : PostOp} {s : State} (h : (p == .sp) = false) :
    KeepsSp s (dereference p post s).2 := by
  cases p <;> first
    | exact absurd h (by decide)
    | (cases post <;> exact ⟨rfl, rfl⟩)

theorem writeSlot_keepsSp {sl : Slot} {v : Byte} {s t : State} (h : writeSlot sl v s = .ok t) : KeepsSp s t := by
  cases sl
  case mhl => obtain ⟨-, rfl⟩ := memWrite_ok h; exact ⟨rfl, rfl⟩
  all_goals cases h; exact ⟨rfl, rfl⟩

theorem readLoc_keepsSp {p : Loc} {v : Byte} {s t : State} (h : readLoc p s = .ok (v, t)) (hp : p.throughSp = false) :
    KeepsSp s t := by
  cases p with
  | slot sl => simp only [readLoc] at h; split at h <;> cases h; exact ⟨rfl, rfl⟩
  | ind pr po => simp only [readLoc] at h; split at h <;> cases h; exact dereference_keepsSp hp

theorem readSrc_keepsSp {x : Src} {v : Byte} {s t : State} (h : readSrc x s = .ok (v, t)) (hp : x.throughSp = false) :
    KeepsSp s t := by
  cases x with
  | loc p => exact readLoc_keepsSp h hp
  | imm d => cases h; exact ⟨rfl, rfl⟩

theorem writeLoc_keepsSp {p : Loc} {v : Byte} {s t : State} (h : writeLoc p v s = .ok t) (hp : p.throughSp = false) :
    KeepsSp s t := by
  cases p with
  | slot sl => exact writeSlot_keepsSp h
  | ind pr po => obtain ⟨-, rfl⟩ := memWrite_ok h; exact dereference_keepsSp (s := s) hp

theorem writeSlot_keepsMem {sl : Slot} {v : Byte} {s t : State} (h : writeSlot sl v s = .ok t)
    (hs : (sl == .mhl) = false) : t.mem = s.mem := by
  cases sl <;> first
    | (cases h; rfl)
    | exact absurd hs (by decide)

theorem writeLoc_keepsMem {p : Loc} {v : Byte} {s t : State} (h : writeLoc p v s = .ok t) (hp : p.inMemory = false) :
    t.mem = s.mem := by
  cases p with
  | slot sl => exact writeSlot_keepsMem h hp
  | ind pr po => cases hp

theorem setPairHigh_keepsSp {p : Pair} {v : Byte} {s : State} (h : (p == .sp) = false) : KeepsSp s (setPairHigh p v s) := by
  cases p <;> first
    | exact absurd h (by decide)
    | exact ⟨rfl, rfl⟩

theorem setPairLow_keepsSp {p : Pair} {v : Byte} {s : State} (h : (p == .sp) = false) : KeepsSp s (setPairLow p v s) := by
  cases p <;> first
    | exact absurd h (by decide)
    | exact ⟨rfl, rfl⟩

theorem KeepsSp.trans {s t u : State} (h : KeepsSp s t) (k : KeepsSp t u) : KeepsSp s u :=
  ⟨k.1.trans h.1, k.2.trans h.2⟩

/-- What an operation of this kind may write between two states: PC, F, the storage and SP stay unless the kind may write them. -/
structure WritesOnly (op : Op) (s t : State) : Prop where
  pc : op.mayJump = false → t.pc = s.pc
  flags : op.mayWriteFlags = false → t.f = s.f
  mem : op.mayStore = false → t.mem = s.mem
  sp : op.mayWriteSp = false → KeepsSp s t

theorem WritesOnly.refl (op : Op) (s : State) : WritesOnly op s s :=
  ⟨fun _ => rfl, fun _ => rfl, fun _ => rfl, fun _ => ⟨rfl, rfl⟩⟩

theorem WritesOnly.trans {op : Op} {s t u : State} (h : WritesOnly op s t) (k : WritesOnly op t u) :
    WritesOnly op s u :=
  ⟨fun x => (k.pc x).trans (h.pc x), fun x => (k.flags x).trans (h.flags x), fun x => (k.mem x).trans (h.mem x),
    fun x => (h.sp x).trans (k.sp x)⟩

/-- Every own step writes only what its kind may write. -/
theorem ownStep_writesOnly {f g : InFlight} {s t : State} (h : ownStep f s = .ok (t, g)) : WritesOnly f.op s t := by
  cases ho : f.op <;> simp only [ownStep, ho] at h
  case increase sl =>
    unfold stepIncrease at h
    split at h
    · cases h
    · split at h
      · cases h
      · next hw =>
        cases h
        exact ⟨fun _ => (writeSlot_spec hw).2.2.1, fun x => absurd x Bool.noConfusion, fun x => (writeSlot_keepsMem hw x :),
          fun _ => (writeSlot_keepsSp hw :)⟩
  case decrease sl =>
    unfold stepDecrease at h
    split at h
    · cases h
    · split at h
      · cases h
      · next hw =>
        cases h
        exact ⟨fun _ => (writeSlot_spec hw).2.2.1, fun x => absurd x Bool.noConfusion, fun x => (writeSlot_keepsMem hw x :),
          fun _ => (writeSlot_keepsSp hw :)⟩
  case rotateFast dir => cases h; exact ⟨fun _ => rfl, fun x => absurd x Bool.noConfusion, fun _ => rfl, fun _ => ⟨rfl, rfl⟩⟩
  case rotateNormal sl dir =>
    unfold stepRotateNormal at h
    split at h
    · cases h
    · split at h
      · cases h
      · next hw =>
        cases h
        exact ⟨fun _ => (writeSlot_spec hw).2.2.1, fun x => absurd x Bool.noConfusion, fun x => (writeSlot_keepsMem hw x :),
          fun _ => (writeSlot_keepsSp hw :)⟩
  case load dst src =>
    unfold stepLoad at h
    split at h
    · cases h
    · next hr =>
      split at h
      · cases h
      · next hw =>
        cases h
        obtain ⟨-, r2, r3, -, r5⟩ := readSrc_spec hr
        obtain ⟨-, w2, w3, -⟩ := writeLoc_spec hw
        refine ⟨fun _ => w3.trans r5, fun _ => w2.trans r3, fun x => (writeLoc_keepsMem hw x).trans r2, fun x => ?_⟩
        obtain ⟨x1, x2⟩ := Bool.or_eq_false_iff.mp x
        exact (readSrc_keepsSp hr x2).trans (writeLoc_keepsSp hw x1)
  case alu kind src =>
    unfold stepAlu at h
    split at h
    · cases h
    · next hr =>
      cases h
      obtain ⟨-, r2, -, -, r5⟩ := readSrc_spec hr
      refine ⟨fun _ => ?_, fun x => absurd x Bool.noConfusion, fun _ => ?_, fun x => ?_⟩
      · split <;> exact r5
      · split <;> exact r2
      · have := readSrc_keepsSp hr x; split <;> exact this
  case inc16 p =>
    unfold stepInc16 at h
    split at h
    · cases h
      exact ⟨fun _ => by simp, fun _ => by simp, fun _ => by simp, setPairLow_keepsSp⟩
    · cases h
      split
      · exact ⟨fun _ => by simp, fun _ => by simp, fun _ => by simp, setPairHigh_keepsSp⟩
      · exact .refl _ _
  case dec16 p =>
    unfold stepDec16 at h
    split at h
    · cases h
      exact ⟨fun _ => by simp, fun _ => by simp, fun _ => by simp, setPairLow_keepsSp⟩
    · cases h
      split
      · exact ⟨fun _ => by simp, fun _ => by simp, fun _ => by simp, setPairHigh_keepsSp⟩
      · exact .refl _ _
  case load16 p d =>
    cases h
    exact ⟨fun _ => by simp, fun _ => by simp, fun _ => by simp,
      fun x => (setPairHigh_keepsSp x).trans (setPairLow_keepsSp x)⟩
  case push p =>
    obtain ⟨-, -, d3, -, d5⟩ := dereference_spec .sp .preDec s
    unfold stepPush at h
    split at h
    all_goals
      split at h
      · cases h
      · next hw =>
        obtain ⟨-, rfl⟩ := memWrite_ok hw
        cases h
        exact ⟨fun _ => d5, fun _ => d3, fun x => absurd x Bool.noConfusion, fun x => absurd x Bool.noConfusion⟩
  case pop p =>
    obtain ⟨-, d2, d3, -, d5⟩ := dereference_spec .sp .postInc s
    unfold stepPop at h
    split at h
    · cases h
    · split at h
      · cases h
        exact ⟨fun _ => by simp [d5], fun _ => by simp [d3], fun _ => by simp [d2], fun x => absurd x Bool.noConfusion⟩
      · cases h
        exact ⟨fun _ => by simp [d5], fun _ => by simp [d3], fun _ => by simp [d2], fun x => absurd x Bool.noConfusion⟩
  case jr e8 => cases h; exact ⟨fun x => absurd x Bool.noConfusion, fun _ => rfl, fun _ => rfl, fun _ => ⟨rfl, rfl⟩⟩
  case jrcc cc e8 =>
    unfold stepJrcc at h
    split at h
    · cases h; exact .refl _ _
    · cases h
      split
      · exact ⟨fun x => absurd x Bool.noConfusion, fun _ => rfl, fun _ => rfl, fun _ => ⟨rfl, rfl⟩⟩
      · exact .refl _ _

/-- A whole instruction writes only what the kind of its operation may write. -/
theorem issue_writesOnly {op : Op} {imm : List Byte} {extra : Nat} {s t : State} (h : issue op imm extra s = .next t) :
    WritesOnly op s t := by
  refine (issue_keeps (P := fun u => (∀ f, u.inflight = some f → f.op = op) ∧ WritesOnly op s u) ?_ ?_ ?_ h).2
  · rintro u ⟨h1, h2⟩
    rcases microStep_cases u with ⟨-, e⟩ | ⟨f, hf, -, ⟨n, -, e⟩ | ⟨-, v, g, ho, e⟩ | ⟨-, c, -, e⟩⟩ <;> rw [e]
    · exact ⟨h1, h2.pc, h2.flags, h2.mem, h2.sp⟩
    · exact ⟨fun f' hf' => by cases hf'; exact h1 f hf, h2.pc, h2.flags, h2.mem, h2.sp⟩
    · have hw := ownStep_writesOnly ho
      rw [h1 f hf] at hw
      have h3 := h2.trans hw
      refine ⟨fun f' hf' => ?_, h3.pc, h3.flags, h3.mem, h3.sp⟩
      cases hf'
      exact (ownStep_frame ho).op.trans (h1 f hf)
    · exact ⟨fun f' hf' => absurd hf' (by simp [raiseFault]), h2.pc, h2.flags, h2.mem, h2.sp⟩
  · rintro u r ⟨h1, h2⟩
    exact ⟨h1, h2.pc, h2.flags, h2.mem, h2.sp⟩
  · exact ⟨fun f hf => by cases hf; rfl, fun _ => rfl, fun _ => rfl, fun _ => rfl, fun _ => ⟨rfl, rfl⟩⟩

end Sys2Proof.Machine
end

