-- ==== Sys2Proof/Tests/Slice0.lean ====
section
/-! SUPPORT. The model's own tests: well-formedness, decoding by words written out from the spec's encodings, single steps of the spec's vectors
(95_test_vectors.md and the examples of the rules), and for every statement with hypotheses a state and operands that meet them. -/

namespace Sys2Proof.Tests

open Sys2Proof.Machine Sys2Proof.Forms

/-! ### Well-formedness: one ill-formed term per check -/

theorem test_wellFormed_opcode : (Instr.unimplemented 0x41 []).wellFormed = false := by decide
theorem test_wellFormed_operandCount : (Instr.unimplemented 0xCB []).wellFormed = false := by decide
theorem test_wellFormed_accepts : (Instr.unimplemented 0x08 [0x34, 0x12]).wellFormed = true := by decide

/-! ### Decoding: every constructor by a word written from its encoding (fields of 30_encoding.md R61 written in bits) -/

/-- Every word of the list decodes to its instruction, with no byte left. -/
def decodes (l : List (List Byte × Instr)) : Bool := l.all fun p => decode p.1 == .ok (p.2, [])

/-- 43_loads.md R137 to R139: `01 yyy zzz` with `yyy` = 000. -/
theorem test_decode_ld_B : decodes
    [([0b01000000], .ldB_B), ([0b01000001], .ldB_C), ([0b01000010], .ldB_D), ([0b01000011], .ldB_E),
      ([0b01000100], .ldB_H), ([0b01000101], .ldB_L), ([0b01000110], .ldB_IndHL), ([0b01000111], .ldB_A)] = true := by decide

/-- 43_loads.md R137 to R139: `01 yyy zzz` with `yyy` = 001. -/
theorem test_decode_ld_C : decodes
    [([0b01001000], .ldC_B), ([0b01001001], .ldC_C), ([0b01001010], .ldC_D), ([0b01001011], .ldC_E),
      ([0b01001100], .ldC_H), ([0b01001101], .ldC_L), ([0b01001110], .ldC_IndHL), ([0b01001111], .ldC_A)] = true := by decide

/-- 43_loads.md R137 to R139: `01 yyy zzz` with `yyy` = 010. -/
theorem test_decode_ld_D : decodes
    [([0b01010000], .ldD_B), ([0b01010001], .ldD_C), ([0b01010010], .ldD_D), ([0b01010011], .ldD_E),
      ([0b01010100], .ldD_H), ([0b01010101], .ldD_L), ([0b01010110], .ldD_IndHL), ([0b01010111], .ldD_A)] = true := by decide

/-- 43_loads.md R137 to R139: `01 yyy zzz` with `yyy` = 011. -/
theorem test_decode_ld_E : decodes
    [([0b01011000], .ldE_B), ([0b01011001], .ldE_C), ([0b01011010], .ldE_D), ([0b01011011], .ldE_E),
      ([0b01011100], .ldE_H), ([0b01011101], .ldE_L), ([0b01011110], .ldE_IndHL), ([0b01011111], .ldE_A)] = true := by decide

/-- 43_loads.md R137 to R139: `01 yyy zzz` with `yyy` = 100. -/
theorem test_decode_ld_H : decodes
    [([0b01100000], .ldH_B), ([0b01100001], .ldH_C), ([0b01100010], .ldH_D), ([0b01100011], .ldH_E),
      ([0b01100100], .ldH_H), ([0b01100101], .ldH_L), ([0b01100110], .ldH_IndHL), ([0b01100111], .ldH_A)] = true := by decide

/-- 43_loads.md R137 to R139: `01 yyy zzz` with `yyy` = 101. -/
theorem test_decode_ld_L : decodes
    [([0b01101000], .ldL_B), ([0b01101001], .ldL_C), ([0b01101010], .ldL_D), ([0b01101011], .ldL_E),
      ([0b01101100], .ldL_H), ([0b01101101], .ldL_L), ([0b01101110], .ldL_IndHL), ([0b01101111], .ldL_A)] = true := by decide

/-- 43_loads.md R137 to R139: `01 yyy zzz` with `yyy` = 110. -/
theorem test_decode_ld_indHL : decodes
    [([0b01110000], .ldIndHL_B), ([0b01110001], .ldIndHL_C), ([0b01110010], .ldIndHL_D), ([0b01110011], .ldIndHL_E),
      ([0b01110100], .ldIndHL_H), ([0b01110101], .ldIndHL_L), ([0b01110111], .ldIndHL_A)] = true := by decide

/-- 43_loads.md R137 to R139: `01 yyy zzz` with `yyy` = 111. -/
theorem test_decode_ld_A : decodes
    [([0b01111000], .ldA_B), ([0b01111001], .ldA_C), ([0b01111010], .ldA_D), ([0b01111011], .ldA_E),
      ([0b01111100], .ldA_H), ([0b01111101], .ldA_L), ([0b01111110], .ldA_IndHL), ([0b01111111], .ldA_A)] = true := by decide

/-- 41_alu8.md: `10 kkk zzz` and `11 kkk 110 d8` with kind 000. -/
theorem test_decode_add : decodes
    [([0b10000000], .addA_B), ([0b10000001], .addA_C), ([0b10000010], .addA_D), ([0b10000011], .addA_E),
      ([0b10000100], .addA_H), ([0b10000101], .addA_L), ([0b10000110], .addA_IndHL), ([0b10000111], .addA_A),
      ([0b11000110, 0x5A], .addA_d8 0x5A)] = true := by decide

/-- 41_alu8.md: `10 kkk zzz` and `11 kkk 110 d8` with kind 001. -/
theorem test_decode_adc : decodes
    [([0b10001000], .adcA_B), ([0b10001001], .adcA_C), ([0b10001010], .adcA_D), ([0b10001011], .adcA_E),
      ([0b10001100], .adcA_H), ([0b10001101], .adcA_L), ([0b10001110], .adcA_IndHL), ([0b10001111], .adcA_A),
      ([0b11001110, 0x5A], .adcA_d8 0x5A)] = true := by decide

/-- 41_alu8.md: `10 kkk zzz` and `11 kkk 110 d8` with kind 010. -/
theorem test_decode_sub : decodes
    [([0b10010000], .subA_B), ([0b10010001], .subA_C), ([0b10010010], .subA_D), ([0b10010011], .subA_E),
      ([0b10010100], .subA_H), ([0b10010101], .subA_L), ([0b10010110], .subA_IndHL), ([0b10010111], .subA_A),
      ([0b11010110, 0x5A], .subA_d8 0x5A)] = true := by decide

/-- 41_alu8.md: `10 kkk zzz` and `11 kkk 110 d8` with kind 011. -/
theorem test_decode_sbc : decodes
    [([0b10011000], .sbcA_B), ([0b10011001], .sbcA_C), ([0b10011010], .sbcA_D), ([0b10011011], .sbcA_E),
      ([0b10011100], .sbcA_H), ([0b10011101], .sbcA_L), ([0b10011110], .sbcA_IndHL), ([0b10011111], .sbcA_A),
      ([0b11011110, 0x5A], .sbcA_d8 0x5A)] = true := by decide

/-- 41_alu8.md: `10 kkk zzz` and `11 kkk 110 d8` with kind 100. -/
theorem test_decode_and : decodes
    [([0b10100000], .andA_B), ([0b10100001], .andA_C), ([0b10100010], .andA_D), ([0b10100011], .andA_E),
      ([0b10100100], .andA_H), ([0b10100101], .andA_L), ([0b10100110], .andA_IndHL), ([0b10100111], .andA_A),
      ([0b11100110, 0x5A], .andA_d8 0x5A)] = true := by decide

/-- 41_alu8.md: `10 kkk zzz` and `11 kkk 110 d8` with kind 101. -/
theorem test_decode_xor : decodes
    [([0b10101000], .xorA_B), ([0b10101001], .xorA_C), ([0b10101010], .xorA_D), ([0b10101011], .xorA_E),
      ([0b10101100], .xorA_H), ([0b10101101], .xorA_L), ([0b10101110], .xorA_IndHL), ([0b10101111], .xorA_A),
      ([0b11101110, 0x5A], .xorA_d8 0x5A)] = true := by decide

/-- 41_alu8.md: `10 kkk zzz` and `11 kkk 110 d8` with kind 110. -/
theorem test_decode_or : decodes
    [([0b10110000], .orA_B), ([0b10110001], .orA_C), ([0b10110010], .orA_D), ([0b10110011], .orA_E),
      ([0b10110100], .orA_H), ([0b10110101], .orA_L), ([0b10110110], .orA_IndHL), ([0b10110111], .orA_A),
      ([0b11110110, 0x5A], .orA_d8 0x5A)] = true := by decide

/-- 41_alu8.md: `10 kkk zzz` and `11 kkk 110 d8` with kind 111. -/
theorem test_decode_cp : decodes
    [([0b10111000], .cpA_B), ([0b10111001], .cpA_C), ([0b10111010], .cpA_D), ([0b10111011], .cpA_E),
      ([0b10111100], .cpA_H), ([0b10111101], .cpA_L), ([0b10111110], .cpA_IndHL), ([0b10111111], .cpA_A),
      ([0b11111110, 0x5A], .cpA_d8 0x5A)] = true := by decide

/-- 41_alu8.md R127 to R130: `00 yyy 100`. -/
theorem test_decode_inc8 : decodes
    [([0b00000100], .incB), ([0b00001100], .incC), ([0b00010100], .incD), ([0b00011100], .incE),
      ([0b00100100], .incH), ([0b00101100], .incL), ([0b00110100], .incIndHL), ([0b00111100], .incA)] = true := by decide

/-- 41_alu8.md R127 to R130: `00 yyy 101`. -/
theorem test_decode_dec8 : decodes
    [([0b00000101], .decB), ([0b00001101], .decC), ([0b00010101], .decD), ([0b00011101], .decE),
      ([0b00100101], .decH), ([0b00101101], .decL), ([0b00110101], .decIndHL), ([0b00111101], .decA)] = true := by decide

/-- 43_loads.md R140, R141: `00 yyy 110 d8`. -/
theorem test_decode_ld_d8 : decodes
    [([0b00000110, 0x9C], .ldB_d8 0x9C), ([0b00001110, 0x9C], .ldC_d8 0x9C), ([0b00010110, 0x9C], .ldD_d8 0x9C), ([0b00011110, 0x9C], .ldE_d8 0x9C),
      ([0b00100110, 0x9C], .ldH_d8 0x9C), ([0b00101110, 0x9C], .ldL_d8 0x9C), ([0b00110110, 0x9C], .ldIndHL_d8 0x9C), ([0b00111110, 0x9C], .ldA_d8 0x9C)] = true := by decide

/-- 43_loads.md R150: `00 pp0 001 lo hi`. -/
theorem test_decode_ld_d16 : decodes
    [([0b00000001, 0x34, 0x12], .ldBC_d16 0x1234), ([0b00010001, 0x34, 0x12], .ldDE_d16 0x1234), ([0b00100001, 0x34, 0x12], .ldHL_d16 0x1234), ([0b00110001, 0x34, 0x12], .ldSP_d16 0x1234)] = true := by decide

/-- 44_inc_dec16.md R153, R154: `00 pp0 011` and `00 pp1 011`. -/
theorem test_decode_inc16_dec16 : decodes
    [([0b00000011], .incBC), ([0b00010011], .incDE), ([0b00100011], .incHL), ([0b00110011], .incSP),
      ([0b00001011], .decBC), ([0b00011011], .decDE), ([0b00101011], .decHL), ([0b00111011], .decSP)] = true := by decide

/-- 43_loads.md R142 to R149: `00 pp0 010` and `00 pp1 010`. -/
theorem test_decode_ld_indirect : decodes
    [([0b00000010], .ldIndBC_A), ([0b00010010], .ldIndDE_A), ([0b00100010], .ldIndHLInc_A), ([0b00110010], .ldIndHLDec_A),
      ([0b00001010], .ldA_IndBC), ([0b00011010], .ldA_IndDE), ([0b00101010], .ldA_IndHLInc), ([0b00111010], .ldA_IndHLDec)] = true := by decide

/-- 42_rotate.md R133, R134: `00 000 111` and `00 001 111`. -/
theorem test_decode_rotate : decodes
    [([0b00000111], .rlca), ([0b00001111], .rrca)] = true := by decide

/-- 46_branch.md R160, R161: `00 011 000 e8` and `00 1cc 000 e8`. -/
theorem test_decode_jr : decodes
    [([0b00011000, 0x05], .jr_e8 0x05), ([0b00100000, 0xF0], .jrNZ_e8 0xF0), ([0b00101000, 0xF0], .jrZ_e8 0xF0), ([0b00110000, 0xF0], .jrNC_e8 0xF0),
      ([0b00111000, 0xF0], .jrC_e8 0xF0)] = true := by decide

/-- 30_encoding.md R75, R69: unimplemented opcodes with none, one and two operand bytes. -/
theorem test_decode_unimplemented : decodes
    [([0x00], .unimplemented 0x00 []), ([0x10, 0x07], .unimplemented 0x10 [0x07]),
      ([0x08, 0x34, 0x12], .unimplemented 0x08 [0x34, 0x12]), ([0x76], .unimplemented 0x76 []),
      ([0xCB, 0x11], .unimplemented 0xCB [0x11]), ([0xC3, 0x50, 0x01], .unimplemented 0xC3 [0x50, 0x01]),
      ([0xFF], .unimplemented 0xFF [])] = true := by decide

theorem test_decode_rejects_truncated : decode [0x01, 0x34] = .error (.truncated 0x01) := by decide
theorem test_decode_rejects_empty : decode [] = .error .noOpcode := by decide
theorem test_decode_leaves_the_rest : decode [0x06, 0x03, 0x3E] = .ok (.ldB_d8 0x03, [0x3E]) := by decide
/-- 30_encoding.md R71 to R75: the region rules bind nothing exactly on the listed opcodes. -/
theorem test_regions_leave_the_seventy : ∀ o : Byte, (regionDecode o []).isNone = unimplementedOpcodes.contains o := by
  decide

/-! ### Single steps -/

/-- The state after the next step, the word placed at PC. -/
def after (s : State) (nbits w : Nat) : Option State :=
  match step (s.withFetchWord nbits w) with
  | .next t => some t
  | .fault _ => none
  | .refused _ => none

/-- A, F and the result after one instruction. -/
def afterAF (s : State) (nbits w : Nat) : Option (Byte × Byte × Option Result) :=
  (after s nbits w).map fun t => (t.a, t.f, t.result)

/-- A storage with one byte. -/
def oneByte (a : Nat) (v : Byte) : Memory := Memory.write [] a v

-- 95_test_vectors.md T5; 2.2
theorem test_add_register : afterAF { State.reset with a := 0xFF, b := 0x01 } 8 0x80 = some (0x00, 0xB0, some (.completed 1)) := by
  decide
theorem test_add_immediate : afterAF { State.reset with a := 0x3C } 16 0xFFC6 = some (0x3B, 0x30, some (.completed 2)) := by
  decide
-- 41_alu8.md R104
theorem test_add_indirect :
    afterAF { State.reset with a := 0x3C, h := 0xC0, mem := oneByte 0xC000 0x12 } 8 0x86 =
      some (0x4E, 0x00, some (.completed 2)) := by decide
theorem test_adc_register :
    afterAF { State.reset with a := 0xF0, f := 0x10, c := 0x0F } 8 0x89 = some (0x00, 0xB0, some (.completed 1)) := by
  decide
theorem test_sub_register :
    afterAF { State.reset with a := 0x10, d := 0x01 } 8 0x92 = some (0x0F, 0x60, some (.completed 1)) := by decide
theorem test_sbc_register :
    afterAF { State.reset with a := 0xFF, f := 0x10 } 8 0x9F = some (0xFF, 0x70, some (.completed 1)) := by decide
theorem test_sbc_immediate :
    afterAF { State.reset with a := 0x10, f := 0x10 } 16 0x0FDE = some (0x00, 0xE0, some (.completed 2)) := by decide
theorem test_and_immediate : afterAF { State.reset with a := 0xF0 } 16 0x0FE6 = some (0x00, 0xA0, some (.completed 2)) := by
  decide
theorem test_xor_register :
    afterAF { State.reset with a := 0x5A, f := 0x10 } 8 0xAF = some (0x00, 0x80, some (.completed 1)) := by decide
theorem test_or_register :
    afterAF { State.reset with a := 0xA0, f := 0x10, e := 0x05 } 8 0xB3 = some (0xA5, 0x00, some (.completed 1)) := by decide
-- T6
theorem test_cp_register :
    afterAF { State.reset with a := 0x42, f := 0x10 } 8 0xBF = some (0x42, 0xC0, some (.completed 1)) := by decide
theorem test_cp_immediate : afterAF State.reset 16 0xFFFE = some (0x00, 0x70, some (.completed 2)) := by decide

-- 95_test_vectors.md 2.3
theorem test_inc_l_does_not_carry :
    (after { State.reset with h := 0x12, l := 0xFF } 8 0x2C).map (fun t => (t.h, t.l, t.f)) = some (0x12, 0x00, 0xA0) := by
  decide
theorem test_inc_keeps_carry :
    (after { State.reset with f := 0x10 } 8 0x04).map (fun t => (t.b, t.f)) = some (0x01, 0x10) := by decide
theorem test_dec_zero : (after { State.reset with f := 0x10 } 8 0x05).map (fun t => (t.b, t.f)) = some (0xFF, 0x70) := by
  decide
theorem test_dec_one : (after { State.reset with l := 0x01 } 8 0x2D).map (fun t => (t.l, t.f)) = some (0x00, 0xC0) := by
  decide
-- T8
theorem test_inc_indirect :
    (after { State.reset with h := 0xC0, mem := oneByte 0xC000 0x7F } 8 0x34).map
      (fun t => (t.mem.read 0xC000, t.f, t.h, t.result)) = some (0x80, 0x20, 0xC0, some (.completed 3)) := by decide
theorem test_dec_indirect :
    (after { State.reset with h := 0xC0 } 8 0x35).map (fun t => (t.mem.read 0xC000, t.f)) = some (0xFF, 0x60) := by decide

-- 95_test_vectors.md 2.4; the Z of 42_rotate.md R132
theorem test_rlca_keeps_zero_flag :
    afterAF { State.reset with a := 0x80, f := 0xE0 } 8 0x07 = some (0x01, 0x90, some (.completed 1)) := by decide
theorem test_rrca : afterAF { State.reset with a := 0x3B } 8 0x0F = some (0x9D, 0x10, some (.completed 1)) := by decide

-- 95_test_vectors.md 2.5
theorem test_ld_register :
    (after { State.reset with b := 0x12, f := 0xF0 } 8 0x78).map (fun t => (t.a, t.f)) = some (0x12, 0xF0) := by decide
theorem test_ld_l_from_hl :
    (after { State.reset with h := 0xC0, l := 0x80, mem := oneByte 0xC080 0x33 } 8 0x6E).map (fun t => (t.h, t.l)) =
      some (0xC0, 0x33) := by decide
theorem test_ld_indirect_h :
    (after { State.reset with h := 0xC0, l := 0x80 } 8 0x74).map (fun t => t.mem.read 0xC080) = some 0xC0 := by decide
theorem test_ld_immediate : (after State.reset 16 0x9C1E).map (fun t => (t.e, t.pc)) = some (0x9C, 0x0002) := by decide
theorem test_ld_indirect_immediate_zero :
    (after { State.reset with h := 0xC0, mem := oneByte 0xC000 0x55 } 16 0x0036).map
      (fun t => (t.mem.read 0xC000, t.f, t.result)) = some (0x00, 0x00, some (.completed 3)) := by decide
theorem test_ld_bc_indirect_a :
    (after { State.reset with a := 0xAA, b := 0xC1, c := 0x23 } 8 0x02).map (fun t => t.mem.read 0xC123) = some 0xAA := by
  decide
theorem test_ld_a_de_indirect :
    (after { State.reset with d := 0xC1, e := 0x24, mem := oneByte 0xC124 0xBB } 8 0x1A).map (fun t => t.a) = some 0xBB := by
  decide
theorem test_ld_hl_inc_wraps :
    (after { State.reset with a := 0x01, h := 0xFF, l := 0xFF } 8 0x22).map
      (fun t => (t.mem.read 0xFFFF, readPair .hl t)) = some (0x01, 0x0000) := by decide
theorem test_ld_hl_dec_wraps :
    (after { State.reset with a := 0x02 } 8 0x32).map (fun t => (t.mem.read 0x0000, readPair .hl t)) =
      some (0x02, 0xFFFF) := by decide
theorem test_ld_a_hl_inc :
    (after { State.reset with h := 0xC0, l := 0xFF, mem := oneByte 0xC0FF 0x5A } 8 0x2A).map
      (fun t => (t.a, readPair .hl t)) = some (0x5A, 0xC100) := by decide
theorem test_ld_a_hl_dec :
    (after { State.reset with h := 0xC1, mem := oneByte 0xC100 0xA5 } 8 0x3A).map (fun t => (t.a, readPair .hl t)) =
      some (0xA5, 0xC0FF) := by decide
theorem test_ld_pair : (after State.reset 24 0x123411).map (fun t => (t.d, t.e, t.pc, t.result)) =
    some (0x12, 0x34, 0x0003, some (.completed 3)) := by decide
theorem test_ld_sp :
    (after { State.reset with sph := 0xFF, spl := 0xFE } 24 0x000031).map (fun t => readPair .sp t) = some 0x0000 := by decide

-- 95_test_vectors.md 2.6
theorem test_inc_pair_carries :
    (after { State.reset with d := 0x00, e := 0xFF } 8 0x13).map (fun t => (readPair .de t, t.f, t.result)) =
      some (0x0100, 0x00, some (.completed 2)) := by decide
theorem test_dec_pair_wraps : (after State.reset 8 0x0B).map (fun t => readPair .bc t) = some 0xFFFF := by decide
theorem test_dec_pair_no_borrow :
    (after { State.reset with h := 0x12, l := 0x34 } 8 0x2B).map (fun t => readPair .hl t) = some 0x1233 := by decide

-- 95_test_vectors.md 2.7, T9, T10
theorem test_jr_forward : (after { State.reset with pc := 0x0100 } 16 0x0518).map (fun t => (t.pc, t.result)) =
    some (0x0105, some (.completed 3)) := by decide
theorem test_jr_backward_wraps : (after State.reset 16 0xFE18).map (fun t => t.pc) = some 0xFFFE := by decide
theorem test_jr_nz_taken : (after { State.reset with pc := 0x0200 } 16 0x1020).map (fun t => (t.pc, t.result)) =
    some (0x0210, some (.completed 3)) := by decide
theorem test_jr_nz_not_taken :
    (after { State.reset with pc := 0x0200, f := 0x80 } 16 0x1020).map (fun t => (t.pc, t.result)) =
      some (0x0202, some (.completed 2)) := by decide
theorem test_jr_z_taken : (after { State.reset with pc := 0x0200, f := 0x80 } 16 0xF028).map (fun t => t.pc) = some 0x01F0 := by
  decide
theorem test_jr_nc_not_taken :
    (after { State.reset with pc := 0x0200, f := 0x10 } 16 0x0430).map (fun t => t.pc) = some 0x0202 := by decide
theorem test_jr_c_taken : (after { State.reset with pc := 0x0200, f := 0x10 } 16 0x0438).map (fun t => t.pc) = some 0x0204 := by
  decide

-- 95_test_vectors.md 2.9, X1 to X8
theorem test_unimplemented :
    (after { State.reset with pc := 0x0100 } 24 0x0150C3).map (fun t => (t.pc, t.fault, t.view)) =
      some (0x0103, some (.unimplemented 0xC3), some ⟨0xC3, 2, [0x50, 0x01]⟩) := by decide

/-- A core on a storage of 0x8000 bytes. -/
def small : State := { State.reset with memSize := 0x8000 }

/-- What the next step leaves, as PC, fault register and view. -/
def outcomeOf (s : State) : Option (Word × Option FaultCause × Option DebugView) :=
  match step s with
  | .next t => some (t.pc, t.fault, t.view)
  | .fault _ => none
  | .refused _ => none

theorem test_operand_fetch_out_of_range :
    outcomeOf { small with pc := 0x7FFF, mem := oneByte 0x7FFF 0x3E } = some (0x8000, some (.outOfRange 0x8000), none) := by
  decide
theorem test_fetch_fault_before_unimplemented :
    outcomeOf { small with pc := 0x7FFF, mem := oneByte 0x7FFF 0xCB } = some (0x8000, some (.outOfRange 0x8000), none) := by
  decide
theorem test_data_out_of_range :
    (match step { small with h := 0x80, mem := oneByte 0x0000 0x22 } with
      | .next t => some (readPair .hl t, t.fault, t.result)
      | .fault _ => none
      | .refused _ => none) =
      some (0x8000, some (.outOfRange 0x8000), some (.fault (.outOfRange 0x8000))) := by decide

-- 95_test_vectors.md S1 (third STEP), S3, S4, S5; RESET of X3
/-- INC DE in flight, decoded from `13`. -/
def incDeInFlight : State :=
  { State.reset with e := 0xFF, pc := 0x0001, inflight := some (startInFlight (.inc16 .de) [] 0)
                     view := some ⟨0x13, 0, []⟩ }

theorem test_step_shows_half_updated_pair :
    (readPair .de (stepCommand incDeInFlight), (stepCommand incDeInFlight).result) = (0x0000, some (.stepped false)) := by
  decide
theorem test_second_step_completes :
    (readPair .de (stepCommand (stepCommand incDeInFlight)), (stepCommand (stepCommand incDeInFlight)).result) =
      (0x0100, some (.stepped true)) := by decide
theorem test_cycle_is_declined_while_busy :
    step incDeInFlight = .next { incDeInFlight with result := some (.refused .busy) } := rfl
theorem test_step_with_nothing_in_flight :
    step { State.reset with host := [.step] } = .next { State.reset with result := some (.stepped true) } := rfl
theorem test_reset_clears_fault :
    step { State.reset with a := 0x55, fault := some (.unimplemented 0x76), host := [.reset] } = .next State.reset := rfl
theorem test_first_step_from_reset : outcomeOf State.reset = some (0x0001, some (.unimplemented 0x00), some ⟨0x00, 0, []⟩) := by
  decide

-- 45_stack.md R156, R157: the examples of PUSH(0) and POP(1), which no opcode reaches
theorem test_push :
    (twoOwnSteps (.push .bc) { State.reset with b := 0x12, c := 0x34, sph := 0xFF, spl := 0xFE }).map
      (fun t => (readPair .sp t, t.mem.read 0xFFFD, t.mem.read 0xFFFC)) = some (0xFFFC, 0x12, 0x34) := by decide
theorem test_pop :
    (twoOwnSteps (.pop .de) { State.reset with sph := 0xFF, spl := 0xFC, mem := [(0xFFFC, 0x34), (0xFFFD, 0x12)] }).map
      (fun t => (readPair .sp t, readPair .de t)) = some (0xFFFE, 0x1234) := by decide

/-! ### Storage -/

theorem test_write_unlisted_value_removes_entry : Memory.write [(5, 0x12)] 5 0x00 = [] := by decide
theorem test_write_keeps_order : Memory.write [(3, 0x01), (9, 0x02)] 5 0x12 = [(3, 0x01), (5, 0x12), (9, 0x02)] := by decide

/-! ### Witnesses: the hypotheses of every statement that has some can be met, each clause of a statement with clauses -/

theorem test_witness_Block0BindsByRegionRules :
    fieldX 0x01 = 0 ∧ ([0x34, 0x12] : List Byte).length = argumentCount 0x01 ∧ (regionBlock0 0x01 [0x34, 0x12]).isSome = true ∧
      fieldX 0x3F = 0 ∧ ([] : List Byte).length = argumentCount 0x3F ∧ regionBlock0 0x3F [] = none := by decide
theorem test_witness_Block1BindsSlotLoads :
    fieldX 0x76 = 1 ∧ fieldY 0x76 = 6 ∧ fieldZ 0x76 = 6 ∧ fieldX 0x40 = 1 ∧ fieldX 0x7F = 1 := by decide
theorem test_witness_Block2BindsAluOnSlots : fieldX 0x80 = 2 ∧ fieldX 0xBF = 2 := by decide
theorem test_witness_AluImmediateRegionBinds :
    0xC6 ≤ (0xC6 : Byte).toNat ∧ lowerNibble 0xC6 % 8 = 6 ∧ 0xC6 ≤ (0xFE : Byte).toNat ∧ lowerNibble 0xFE % 8 = 6 := by decide
theorem test_witness_UnimplementedIsExactlyTheSeventy :
    (0xFF : Byte) ∈ unimplementedOpcodes ∧ (0xFE : Byte) ∉ unimplementedOpcodes := by decide
theorem test_witness_DecodeOfEncodeIsIdentity :
    (Instr.ldSP_d16 0xFFFE).wellFormed = true ∧ (Instr.unimplemented 0xCB [0x11]).wellFormed = true := by decide
theorem test_witness_EncodeOfDecodeIsIdentity : ∃ bytes rest i, decode bytes = .ok (i, rest) :=
  ⟨[0x31, 0xFE, 0xFF, 0x76], [0x76], .ldSP_d16 0xFFFE, by decide⟩

/-- LD BC,d16 at address 0. -/
def ldBcAt0 : State := { State.reset with mem := oneByte 0x0000 0x01 }

theorem test_witness_Fetch_inRange :
    ldBcAt0.accepts ∧ fetchInRange ldBcAt0 (argumentCount (ldBcAt0.mem.read ldBcAt0.pc.toNat)) :=
  ⟨⟨rfl, rfl⟩, ⟨(by decide : 0 < 65536), (by decide : 1 < 65536)⟩, (by decide : 2 < 65536)⟩
theorem test_witness_Fetch_opcode : ({ small with pc := 0x8000 } : State).memSize ≤ (0x8000 : Word).toNat := by decide
theorem test_witness_Fetch_firstOperand :
    fetchInRange { small with pc := 0x7FFF, mem := oneByte 0x7FFF 0x3E } 0 ∧
      1 ≤ argumentCount ((oneByte 0x7FFF 0x3E).read 0x7FFF) ∧ small.memSize ≤ ((0x7FFF : Word) + 1).toNat :=
  ⟨(by decide : 0x7FFF < 0x8000), by decide, by decide⟩
theorem test_witness_Fetch_secondOperand :
    fetchInRange { small with pc := 0x7FFE, mem := oneByte 0x7FFE 0x01 } 1 ∧
      argumentCount ((oneByte 0x7FFE 0x01).read 0x7FFE) = 2 ∧ small.memSize ≤ ((0x7FFE : Word) + 2).toNat :=
  ⟨⟨(by decide : 0x7FFE < 0x8000), (by decide : 0x7FFF < 0x8000)⟩, by decide, by decide⟩
theorem test_witness_StepRunsDecodedInstruction :
    ldBcAt0.accepts ∧ nextMove ldBcAt0 = (.cycle .run, []) ∧ decode (bytesAtPc ldBcAt0) = .ok (.ldBC_d16 0x0000, []) ∧
      fetchInRange ldBcAt0 (argumentCount (opcode (.ldBC_d16 0x0000))) :=
  ⟨⟨rfl, rfl⟩, rfl, by decide, ⟨(by decide : 0 < 65536), (by decide : 1 < 65536)⟩, (by decide : 2 < 65536)⟩

/-- INC (HL) in flight with its two extra steps. -/
def incIndHlInFlight : State := { State.reset with inflight := some (startInFlight (.increase .mhl) [] 2) }
/-- The same with no extra step left, on a storage that HL is outside of. -/
def incOutOfRange : State := { small with h := 0x80, inflight := some (startInFlight (.increase .mhl) [] 0) }

theorem test_witness_StepCommandCases_faulted : ({ State.reset with fault := some (.unimplemented 0x76) } : State).fault ≠ none := by
  decide
theorem test_witness_StepCommandCases_idle : State.reset.fault = none ∧ State.reset.busy = false := by decide
theorem test_witness_StepCommandCases_extra :
    incIndHlInFlight.fault = none ∧ incIndHlInFlight.inflight = some (startInFlight (.increase .mhl) [] 2) ∧
      (startInFlight (.increase .mhl) [] 2).done = false ∧ (startInFlight (.increase .mhl) [] 2).extraLeft = 1 + 1 := by decide
theorem test_witness_StepCommandCases_own :
    incDeInFlight.fault = none ∧ (startInFlight (.inc16 .de) [] 0).extraLeft = 0 ∧
      ∃ t g, ownStep (startInFlight (.inc16 .de) [] 0) incDeInFlight = .ok (t, g) := ⟨rfl, rfl, _, _, rfl⟩
theorem test_witness_StepCommandCases_ownFault :
    incOutOfRange.fault = none ∧ incOutOfRange.inflight = some (startInFlight (.increase .mhl) [] 0) ∧
      (startInFlight (.increase .mhl) [] 0).extraLeft = 0 ∧
      ownStep (startInFlight (.increase .mhl) [] 0) incOutOfRange = .error (.outOfRange 0x8000) := by decide
theorem test_witness_ExtraStepReadsAndWritesNothing :
    ∃ (s u : State) (f : InFlight) (n : Nat), s.fault = none ∧ s.inflight = some f ∧ f.done = false ∧ f.extraLeft = n + 1 ∧
      u.fault = none ∧ u.inflight = some f :=
  ⟨incIndHlInFlight, { incIndHlInFlight with a := 0x55 }, startInFlight (.increase .mhl) [] 2, 1, rfl, rfl, rfl, rfl, rfl, rfl⟩

/-- What a CYCLE leaves, or the state itself where the model stops. -/
def cycled (m : CycleMode) (s : State) : State :=
  match cycleCommand m s with
  | .next t => t
  | .fault _ => s
  | .refused _ => s

theorem test_witness_RunIsHandThenSteps_completes :
    ldBcAt0.accepts ∧ cycleCommand .hand ldBcAt0 = .next (cycled .hand ldBcAt0) ∧
      cycleCommand .run ldBcAt0 = .next (cycled .run ldBcAt0) ∧ (cycled .hand ldBcAt0).fault = none ∧
      (stepTimes 3 (cycled .hand ldBcAt0)).result = some (.stepped true) := ⟨⟨rfl, rfl⟩, rfl, rfl, by decide, by decide⟩
theorem test_witness_RunIsHandThenSteps_fetchFaults :
    State.reset.accepts ∧ cycleCommand .hand State.reset = .next (cycled .hand State.reset) ∧
      cycleCommand .run State.reset = .next (cycled .run State.reset) ∧ (cycled .hand State.reset).fault ≠ none :=
  ⟨⟨rfl, rfl⟩, rfl, rfl, by decide⟩
theorem test_witness_RunIsHandThenSteps_stepFaults :
    (cycled .hand { small with h := 0x80, mem := oneByte 0x0000 0x34 }).fault = none ∧
      (stepTimes 3 (cycled .hand { small with h := 0x80, mem := oneByte 0x0000 0x34 })).result =
        some (.fault (.outOfRange 0x8000)) := by decide
theorem test_witness_StepKeepsHeldInstruction :
    ∃ f g, incDeInFlight.inflight = some f ∧ (stepCommand incDeInFlight).inflight = some g := ⟨_, _, rfl, rfl⟩
theorem test_witness_modeRun : State.reset.mode = .run := rfl
theorem test_witness_RunEndsWithinThreeSteps_faults :
    ({ small with h := 0x80 } : State).mode = .run ∧
      ∃ t, exec .incIndHL { small with h := 0x80 } = .next t ∧ t.result = some (.fault (.outOfRange 0x8000)) :=
  ⟨rfl, _, rfl, by decide⟩
theorem test_witness_NoInstructionReachesPushPopNormalRotate :
    ∃ i s t f, exec i s = .next t ∧ t.inflight = some f := ⟨.incBC, State.reset, _, _, rfl, rfl⟩

theorem test_witness_UnimplementedOpcodeTakesItsFault :
    State.reset.accepts ∧ nextMove State.reset = (.cycle .run, []) ∧ State.reset.mem.read State.reset.pc.toNat ∈ unimplementedOpcodes ∧
      fetchInRange State.reset (argumentCount (State.reset.mem.read State.reset.pc.toNat)) :=
  ⟨⟨rfl, rfl⟩, rfl, by decide, (by decide : 0 < 65536)⟩
theorem test_witness_OutOfRangeAccess_fetch :
    ({ small with pc := 0x8000 } : State).accepts ∧
      fetch { small with pc := 0x8000 } = .error (.outOfRange 0x8000, { small with pc := 0x8000 }) := ⟨⟨rfl, rfl⟩, by decide⟩
theorem test_witness_OutOfRangeAccess_step :
    incOutOfRange.fault = none ∧ (startInFlight (.increase .mhl) [] 0).done = false ∧
      ownStep (startInFlight (.increase .mhl) [] 0) incOutOfRange = .error (.outOfRange 0x8000) := by decide
theorem test_witness_fullStorage : State.reset.memSize = 65536 := rfl
theorem test_witness_DataAccessOutOfRange :
    ({ small with h := 0x80 } : State).mode = .run ∧
      ({ small with h := 0x80 } : State).memSize ≤ (readPair .hl { small with h := 0x80 }).toNat ∧
      ((.incIndHL, .hl) : Instr × Pair) ∈ memForms 0x00 := by decide
theorem test_witness_FaultedAndBusyCommandsAreDeclined :
    ({ State.reset with fault := some (.unimplemented 0x76) } : State).fault ≠ none ∧
      incDeInFlight.fault = none ∧ incDeInFlight.busy = true := by decide
theorem test_witness_ResetConstructsTheCore : ∃ (s : State) (rest : List HostMove), s.host = .reset :: rest :=
  ⟨{ State.reset with a := 0x55, fault := some (.unimplemented 0x76), host := [.reset, .step] }, [.step], rfl⟩

/-- A core whose host writes one byte next. -/
def ownerWrites (s : State) (a : Word) : State := { s with host := [.ownerWrite a 0x12] }

theorem test_witness_OwnerWrites_busy :
    (ownerWrites incDeInFlight 0xFFFF).host = [.ownerWrite 0xFFFF 0x12] ∧ (ownerWrites incDeInFlight 0xFFFF).busy = true := by
  decide
theorem test_witness_OwnerWrites_outside :
    (ownerWrites small 0x8000).busy = false ∧ (ownerWrites small 0x8000).memSize ≤ (0x8000 : Word).toNat := by decide
theorem test_witness_OwnerWrites_boundary :
    (ownerWrites small 0x7FFF).busy = false ∧ (0x7FFF : Word).toNat < (ownerWrites small 0x7FFF).memSize ∧
      MemInv (ownerWrites small 0x7FFF) := ⟨rfl, by decide, rfl⟩

theorem test_witness_StepKeepsMemoryCanonical : MemInv ldBcAt0 ∧ ∃ t, step ldBcAt0 = .next t := ⟨by unfold MemInv; decide, _, rfl⟩
theorem test_witness_StepKeepsUnusedFlagBitsZero :
    FlagInv { ldBcAt0 with f := 0xF0 } ∧ ∃ t, step { ldBcAt0 with f := 0xF0 } = .next t := ⟨by unfold FlagInv; decide, _, rfl⟩
theorem test_witness_StepKeepsSequencerSound :
    SequencerInv { incDeInFlight with host := [.step] } ∧ ∃ t, step { incDeInFlight with host := [.step] } = .next t := by
  refine ⟨⟨fun h => absurd rfl h, fun f h => ?_, fun v h => ?_⟩, _, rfl⟩
  · cases h
    exact ⟨by unfold InFlight.sound; decide, _, rfl, rfl⟩
  · cases h
    exact ⟨by decide, rfl⟩
theorem test_witness_FullStorageNeverFaultsOutOfRange :
    State.reset.memSize = 65536 ∧ (∀ a, State.reset.fault ≠ some (.outOfRange a)) ∧ ∃ t, step State.reset = .next t :=
  ⟨rfl, fun _ h => (by cases h), _, rfl⟩

theorem test_witness_OnlyJumpsWritePc :
    ∃ s t, exec (.ldBC_d16 0x1234) s = .next t ∧ isJump (.ldBC_d16 0x1234) = false := ⟨State.reset, _, rfl, rfl⟩
theorem test_witness_OnlySpInstructionsWriteSp :
    ∃ s t, exec (.incHL) s = .next t ∧ writesSp .incHL = false := ⟨State.reset, _, rfl, rfl⟩
theorem test_witness_OnlyStoresWriteMemory :
    ∃ s t, exec (.addA_IndHL) s = .next t ∧ isStore .addA_IndHL = false := ⟨State.reset, _, rfl, rfl⟩
theorem test_witness_OnlyFlagInstructionsWriteF :
    ∃ s t, exec (.decSP) s = .next t ∧ writesFlags .decSP = false := ⟨State.reset, _, rfl, rfl⟩

theorem test_witness_loads_run : (.ldB_C, .b, .c) ∈ ldRegReg ∧ State.reset.mode = .run := by decide
theorem test_witness_LoadRegisterFromHL :
    (.ldL_IndHL, .l) ∈ ldRegHL ∧ ({ small with h := 0x7F, l := 0xFF } : State).mode = .run ∧
      (readPair .hl { small with h := 0x7F, l := 0xFF }).toNat < small.memSize := by decide
theorem test_witness_LoadRegisterImmediate : (.ldA_d8 0x5A, .a) ∈ ldRegImm 0x5A ∧ State.reset.mode = .run := by decide
theorem test_witness_StoreToHL :
    (.ldIndHL_d8 0x5A, .imm 0x5A, 3) ∈ stHL 0x5A ∧ small.mode = .run ∧ MemInv { small with h := 0x7F, l := 0xFF } ∧
      (readPair .hl { small with h := 0x7F, l := 0xFF }).toNat < small.memSize := ⟨by decide, rfl, rfl, by decide⟩
theorem test_witness_LoadAccumulatorIndirect :
    (.ldA_IndHLInc, .hl, 1, [.a, .h, .l]) ∈ ldAInd ∧ State.reset.mode = .run ∧
      (readPair .hl { State.reset with h := 0xFF, l := 0xFF }).toNat < State.reset.memSize := by decide
theorem test_witness_StoreAccumulatorIndirect :
    (.ldIndHLDec_A, .hl, -1, [.h, .l]) ∈ stAInd ∧ State.reset.mode = .run ∧ MemInv State.reset ∧
      (readPair .hl State.reset).toNat < State.reset.memSize := ⟨by decide, rfl, rfl, by decide⟩
theorem test_witness_LoadPairImmediate : (.ldSP_d16 0xFFFE, .sp) ∈ ldPairImm 0xFFFE ∧ State.reset.mode = .run := by decide

theorem test_witness_alu_register :
    (.addA_B, .reg .b, 1) ∈ addForms 0x00 ∧ (.adcA_B, .reg .b, 1) ∈ adcForms 0x00 ∧ (.subA_B, .reg .b, 1) ∈ subForms 0x00 ∧
      (.sbcA_B, .reg .b, 1) ∈ sbcForms 0x00 ∧ (.andA_B, .reg .b, 1) ∈ andForms 0x00 ∧ (.xorA_B, .reg .b, 1) ∈ xorForms 0x00 ∧
      (.orA_B, .reg .b, 1) ∈ orForms 0x00 ∧ (.cpA_B, .reg .b, 1) ∈ cpForms 0x00 ∧ State.reset.mode = .run ∧
      (Operand.reg .b).inRange State.reset :=
  ⟨by decide, by decide, by decide, by decide, by decide, by decide, by decide, by decide, rfl, trivial⟩
theorem test_witness_alu_indirect :
    (.addA_IndHL, .at .hl, 2) ∈ addForms 0x00 ∧ (.adcA_IndHL, .at .hl, 2) ∈ adcForms 0x00 ∧
      (.subA_IndHL, .at .hl, 2) ∈ subForms 0x00 ∧ (.sbcA_IndHL, .at .hl, 2) ∈ sbcForms 0x00 ∧
      (.andA_IndHL, .at .hl, 2) ∈ andForms 0x00 ∧ (.xorA_IndHL, .at .hl, 2) ∈ xorForms 0x00 ∧
      (.orA_IndHL, .at .hl, 2) ∈ orForms 0x00 ∧ (.cpA_IndHL, .at .hl, 2) ∈ cpForms 0x00 ∧
      (Operand.at .hl).inRange { small with h := 0x7F, l := 0xFF } ∧
      small.memSize ≤ (readPair .hl { small with h := 0x80 }).toNat :=
  ⟨by decide, by decide, by decide, by decide, by decide, by decide, by decide, by decide,
    (by decide : (readPair .hl { small with h := 0x7F, l := 0xFF }).toNat < small.memSize), by decide⟩
theorem test_witness_IncrementRegister : (.incL, .l) ∈ incReg ∧ (.decL, .l) ∈ decReg ∧ State.reset.mode = .run := by decide
theorem test_witness_IncrementDecrementMemory :
    ∃ (s : State) (v : Byte), s.mode = .run ∧ MemInv s ∧ (readPair .hl s).toNat < s.memSize ∧
      v = s.mem.read (readPair .hl s).toNat :=
  ⟨{ State.reset with h := 0xFF, l := 0xFF, mem := oneByte 0xFFFF 0xFF }, 0xFF, rfl, by unfold MemInv; decide, by decide, by decide⟩
theorem test_witness_IncrementDecrementPair : (.incSP, .sp) ∈ incPair ∧ (.decSP, .sp) ∈ decPair ∧ State.reset.mode = .run := by
  decide
theorem test_witness_HalfUpdatedPairIsVisible :
    ({ State.reset with mode := .hand } : State).mode = .hand ∧ ({ State.reset with mode := .hand } : State).fault = none := by
  decide
theorem test_witness_PushStoresHighThenLow :
    Pair.bc ≠ .sp ∧ MemInv State.reset ∧ (readPair .sp State.reset - 1).toNat < State.reset.memSize ∧
      (readPair .sp State.reset - 2).toNat < State.reset.memSize := ⟨by decide, rfl, by decide, by decide⟩
theorem test_witness_JumpRelative : State.reset.mode = .run ∧ ({ State.reset with pc := 0x0001 } : State).pc = 0xFFFF + 2 := by
  decide
theorem test_witness_JumpConditional :
    (.jrC_e8 0x80, .c) ∈ jrcc 0x80 ∧ State.reset.mode = .run ∧ getFlag .c State.reset = false ∧
      getFlag .c { State.reset with f := 0x10 } = true := by decide

end Sys2Proof.Tests
end

section
/-! What a step of the machine can do, move by move of the host, and the invariant of a storage of 65536 bytes
(20_memory.md R43, 60_exceptions.md R166): a 16-bit address never lies outside it. -/

namespace Sys2Proof.Machine

/-! ### The moves of a step -/

/-- An owner's write that answers a state was made at an instruction boundary and inside the storage (20_memory.md R55; log entry 6). -/
theorem ownerWrite_next {a : Word} {v : Byte} {s t : State} (h : ownerWrite a v s = .next t) :
    s.busy = false ∧ a.toNat < s.memSize ∧ t = { s with mem := s.mem.write a.toNat v } := by
  unfold ownerWrite at h
  split at h
  · cases h
  · next hb =>
    split at h
    · next ha => cases h; exact ⟨by simpa using hb, ha, rfl⟩
    · cases h

/-- A property that does not look at the host's list and that each move of the host (40_sequencer.md R80, 20_memory.md R55) keeps passes
through a step of the machine. -/
theorem step_keeps {P : State → Prop} (hHost : ∀ s l, P s → P { s with host := l }) (hReset : ∀ s, P s → P (construct s))
    (hCycle : ∀ m s t, P s → cycleCommand m s = .next t → P t) (hStep : ∀ s, P s → P (stepCommand s))
    (hOwner : ∀ a v s t, P s → ownerWrite a v s = .next t → P t) {s t : State} (hs : P s) (h : step s = .next t) : P t := by
  have hs' : P { s with host := (nextMove s).2 } := hHost s _ hs
  unfold step at h
  cases hm : (nextMove s).1 with
  | reset => rw [hm] at h; cases h; exact hReset _ hs'
  | cycle m => rw [hm] at h; exact hCycle m _ t hs' h
  | step => rw [hm] at h; cases h; exact hStep _ hs'
  | ownerWrite a v => rw [hm] at h; exact hOwner a v _ t hs' h

/-! ### A full storage -/

/-- The storage has 65536 bytes and the fault register holds no `OutOfRange`. -/
structure FullStorage (s : State) : Prop where
  size : s.memSize = 65536
  noOutOfRange : ∀ a, s.fault ≠ some (.outOfRange a)

/-- The invariant looks at the size and the fault register alone. -/
theorem FullStorage.congr {s t : State} (hs : FullStorage s) (hm : t.memSize = s.memSize) (hf : t.fault = s.fault) :
    FullStorage t :=
  ⟨hm.trans hs.size, hf ▸ hs.noOutOfRange⟩

/-- Every 16-bit address lies inside a full storage (20_memory.md R43). -/
theorem FullStorage.lt_size {s : State} (hs : FullStorage s) (a : Word) : a.toNat < s.memSize :=
  hs.size ▸ a.isLt

theorem FullStorage.not_isOutOfRange {s : State} (hs : FullStorage s) (c : FaultCause) : ¬ IsOutOfRange s c := by
  rintro ⟨a, -, ha⟩
  exact Nat.not_lt.mpr ha (hs.lt_size a)

theorem FullStorage.decline {s : State} (hs : FullStorage s) (w : Declined) : FullStorage (decline w s) :=
  hs.congr rfl rfl

/-- An own step faults only out of range, so on a full storage it never does. -/
theorem FullStorage.microStep {s : State} (hs : FullStorage s) : FullStorage (microStep s) := by
  rcases microStep_cases s with ⟨-, e⟩ | ⟨f, -, -, ⟨n, -, e⟩ | ⟨-, t, g, ho, e⟩ | ⟨-, c, ho, -⟩⟩
  · rw [e]; exact hs.congr rfl rfl
  · rw [e]; exact hs.congr rfl rfl
  · have hc := (ownStep_frame ho).control
    rw [e]; exact hs.congr hc.memSize hc.fault
  · exact absurd (ownStep_error ho) (hs.not_isOutOfRange c)

theorem FullStorage.stepCommand {s : State} (hs : FullStorage s) : FullStorage (stepCommand s) := by
  unfold Machine.stepCommand
  split
  · exact hs.decline _
  · exact hs.microStep

/-- An instruction either takes the fault `Unimplemented`, or issues an operation whose steps keep the invariant. -/
theorem FullStorage.exec {i : Instr} {s t : State} (hs : FullStorage s) (h : exec i s = .next t) : FullStorage t := by
  rcases exec_cases i with ⟨o, operands, rfl⟩ | ⟨op, extra, -, hi⟩
  · cases h
    exact ⟨hs.size, fun a ha => by cases ha⟩
  · rw [hi] at h
    exact issue_keeps (fun _ hu => hu.microStep) (fun _ _ hu => hu.congr rfl rfl) (hs.congr rfl rfl) h

/-- A fetch faults only out of range, so on a full storage CYCLE is declined or executes the decoded instruction. -/
theorem FullStorage.cycleCommand {m : CycleMode} {s t : State} (hs : FullStorage s) (h : cycleCommand m s = .next t) :
    FullStorage t := by
  rcases cycleCommand_cases h with ⟨w, rfl⟩ | ⟨-, a, -, ha, -⟩ | ⟨-, o, operands, a, -, he⟩
  · exact hs.decline w
  · exact absurd (hs.lt_size a) (Nat.not_lt.mpr ha)
  · refine FullStorage.exec ?_ he
    exact hs.congr rfl rfl

theorem FullStorage.construct {s : State} (hs : FullStorage s) : FullStorage (construct s) :=
  ⟨hs.size, fun a ha => by cases ha⟩

theorem FullStorage.ownerWrite {a : Word} {v : Byte} {s t : State} (hs : FullStorage s) (h : ownerWrite a v s = .next t) :
    FullStorage t := by
  obtain ⟨-, -, rfl⟩ := ownerWrite_next h
  exact hs.congr rfl rfl

theorem FullStorage.step {s t : State} (hs : FullStorage s) (h : step s = .next t) : FullStorage t :=
  step_keeps (fun _ _ hu => hu.congr rfl rfl) (fun _ hu => hu.construct) (fun _ _ _ hu => hu.cycleCommand)
    (fun _ hu => hu.stepCommand) (fun _ _ _ _ hu => hu.ownerWrite) hs h

/-- Settles O32: `FullStorage` is kept by every move of the host, since a fetch and an own step fault only on an address
outside the storage, and no 16-bit address lies outside 65536 bytes. -/
theorem fullStorageNeverFaultsOutOfRange : Obligations.FullStorageNeverFaultsOutOfRange := by
  intro s t hsize hfault h
  have ht : FullStorage t := FullStorage.step ⟨hsize, hfault⟩ h
  exact ⟨ht.size, ht.noOutOfRange⟩

end Sys2Proof.Machine
end

section
/-! The operand bytes of a decoded instruction, and the cases of CYCLE down to the operation it issues (40_sequencer.md R88). -/

namespace Sys2Proof.Machine

/-! ### The decoder keeps the operand bytes -/

/-- Two lists related entry by entry, with related defaults, are related at every index. -/
theorem forall₂_getD {α β : Type} {R : α → β → Prop} {xs : List α} {ys : List β} {x : α} {y : β}
    (h : List.Forall₂ R xs ys) (hd : R x y) (n : Nat) : R (xs.getD n x) (ys.getD n y) := by
  induction h generalizing n with
  | nil => exact hd
  | cons hxy _ ih =>
    cases n with
    | zero => exact hxy
    | succ n => exact ih n

/-- Where the table of R69 counts as many operand bytes as there are, the map of R78 holds an instruction with these operand bytes:
the two tables entry by entry, for no, one, two and more operand bytes. -/
theorem argumentCounts_opcodeMap (o : Byte) (operands : List Byte) :
    List.Forall₂ (List.Forall₂ fun n i => operands.length = n → operandBytes i = operands) argumentCounts
      (opcodeMap (.unimplemented o operands) (immD8 operands) (immD16 operands)) := by
  rcases operands with _ | ⟨b1, _ | ⟨b2, _ | ⟨b3, bs⟩⟩⟩ <;>
    simp [argumentCounts, opcodeMap, opcodeRow0, opcodeRow1, opcodeRow2, opcodeRow3, opcodeRow4, opcodeRow5,
      opcodeRow6, opcodeRow7, opcodeRow8, opcodeRow9, opcodeRowA, opcodeRowB, opcodeRowC, opcodeRowD, opcodeRowE,
      opcodeRowF, operandBytes, immD8, immD16, loByte_joinBytes, hiByte_joinBytes]

/-- The decoded instruction has the operand bytes that were fetched with its opcode (30_encoding.md R68, R69). -/
theorem operandBytes_decodeOpcode {o : Byte} {operands : List Byte} (h : operands.length = argumentCount o) :
    operandBytes (decodeOpcode o operands) = operands :=
  forall₂_getD (forall₂_getD (argumentCounts_opcodeMap o operands) .nil (upperNibble o)) (fun _ => rfl) (lowerNibble o) h

/-! ### CYCLE -/

/-- The state a fetch that does not fault hands to the decoded instruction: PC at `pc_post`, the debug view, the mode of the CYCLE. -/
def afterFetch (m : CycleMode) (o : Byte) (operands : List Byte) (pcPost : Word) (s : State) : State :=
  { s with pc := pcPost, view := some ⟨o, argumentCount o, operands⟩, mode := m }

/-- CYCLE is declined, or takes a fault of the fetch or of an unimplemented opcode, or issues an operation with the operand bytes it
fetched. -/
theorem cycleCommand_issues {m : CycleMode} {s t : State} (h : cycleCommand m s = .next t) :
    (∃ why, t = decline why s) ∨
    (∃ c a, t = raiseFault c { s with pc := a }) ∨
    (s.fault = none ∧ ∃ o operands a, operands.length = argumentCount o ∧
      ((∃ c, t = raiseFault c (afterFetch m o operands a s)) ∨
        ∃ op extra, op.Issuable extra ∧ issue op operands extra (afterFetch m o operands a s) = .next t)) := by
  rcases cycleCommand_cases h with hd | ⟨-, a, -, -, e⟩ | ⟨ha, o, operands, a, hl, he⟩
  · exact .inl hd
  · exact .inr (.inl ⟨_, a, e⟩)
  · refine .inr (.inr ⟨ha.1, o, operands, a, hl, ?_⟩)
    rcases exec_cases (decodeOpcode o operands) with ⟨p, bs, hu⟩ | ⟨op, extra, hop, hi⟩
    · rw [hu] at he
      cases he
      exact .inl ⟨_, rfl⟩
    · rw [hi, operandBytes_decodeOpcode hl] at he
      exact .inr ⟨op, extra, hop, he⟩

end Sys2Proof.Machine
end

section
/-! RESET, and the invariant of F: its bits 3..0 stay zero (10_state.md R30), since only `SetFlag` writes F. -/

namespace Sys2Proof.Machine

/-! ### RESET -/

/-- RESET as the host's next move. -/
theorem step_reset {s : State} {rest : List HostMove} (h : s.host = .reset :: rest) :
    step s = .next (construct { s with host := rest }) := by
  simp [step, nextMove, h, perform]

theorem regValue_construct (r : Reg) (s : State) : regValue r (construct s) = 0 := by
  cases r <;> rfl

theorem readPair_construct (p : Pair) (s : State) : readPair p (construct s) = 0 := by
  have h : joinBytes 0 0 = 0 := by decide
  cases p <;> exact h

theorem getFlag_construct (fl : Flag) (s : State) : getFlag fl (construct s) = false := by
  simp [getFlag]

/-- Settles O25: the step performs RESET, whose state is the construction state over the same storage and further moves. -/
theorem resetConstructsTheCore : Obligations.ResetConstructsTheCore := by
  intro s rest h
  exact ⟨_, step_reset h, fun r => regValue_construct r _, rfl, fun fl => getFlag_construct fl _,
    fun p => readPair_construct p _, rfl, rfl, rfl, rfl, rfl, rfl, rfl⟩

/-! ### The unused bits of F -/

/-- The invariant looks at the low bits of F alone. -/
theorem FlagInv.congr {s t : State} (hs : FlagInv s) (h : t.f &&& 0x0F = s.f &&& 0x0F) : FlagInv t :=
  h.trans hs

theorem flagInv_construct (s : State) : FlagInv (construct s) := by
  simp [FlagInv]

/-- An own step writes F through `SetFlag` alone, which touches no low bit. -/
theorem FlagInv.microStep {s : State} (hs : FlagInv s) : FlagInv (microStep s) := by
  rcases microStep_cases s with ⟨-, e⟩ | ⟨f, -, -, ⟨n, -, e⟩ | ⟨-, t, g, ho, e⟩ | ⟨-, c, -, e⟩⟩ <;> rw [e]
  · exact hs.congr rfl
  · exact hs.congr rfl
  · exact hs.congr (ownStep_frame ho).lowBits
  · exact hs.congr rfl

theorem FlagInv.stepCommand {s : State} (hs : FlagInv s) : FlagInv (stepCommand s) := by
  unfold Machine.stepCommand
  split
  · exact hs.congr rfl
  · exact hs.microStep

theorem FlagInv.cycleCommand {m : CycleMode} {s t : State} (hs : FlagInv s) (h : cycleCommand m s = .next t) :
    FlagInv t := by
  rcases cycleCommand_issues h with ⟨why, rfl⟩ | ⟨c, a, rfl⟩ | ⟨-, o, operands, a, -, ⟨c, rfl⟩ | ⟨op, extra, -, hi⟩⟩
  · exact hs.congr rfl
  · exact hs.congr rfl
  · exact hs.congr rfl
  · have hstart : FlagInv { afterFetch m o operands a s with inflight := some (startInFlight op operands extra) } :=
      hs.congr rfl
    exact issue_keeps (fun _ hu => hu.microStep) (fun _ _ hu => hu.congr rfl) hstart hi

theorem FlagInv.ownerWrite {a : Word} {v : Byte} {s t : State} (hs : FlagInv s) (h : ownerWrite a v s = .next t) :
    FlagInv t := by
  obtain ⟨-, -, rfl⟩ := ownerWrite_next h
  exact hs.congr rfl

/-- Settles O30: every move of the host keeps the low bits of F, RESET by clearing F. -/
theorem stepKeepsUnusedFlagBitsZero : Obligations.StepKeepsUnusedFlagBitsZero := fun _ _ hs h =>
  step_keeps (fun _ _ hu => hu.congr rfl) (fun u _ => flagInv_construct u) (fun _ _ _ hu => hu.cycleCommand)
    (fun _ hu => hu.stepCommand) (fun _ _ _ _ hu => hu.ownerWrite) hs h

end Sys2Proof.Machine
end

section
/-! The invariant of the sequencer (10_state.md R35, R37; 60_exceptions.md R165, R166, R181): a fault leaves nothing in flight, the record in
flight is sound, and the debug view shows its bytes. -/

namespace Sys2Proof.Machine

/-! ### Sound in-flight records -/

/-- The record a decode creates is sound (40_sequencer.md R85, R88). -/
theorem sound_startInFlight {op : Op} {extra : Nat} (imm : List Byte) (h : op.Issuable extra) :
    (startInFlight op imm extra).sound := by
  obtain ⟨hr, he⟩ := h
  refine ⟨hr, ?_, fun hk => absurd hk (Nat.lt_irrefl 0), fun hd => (by cases hd), fun _ => .inl rfl⟩
  change extra ≤ 2
  split at he <;> omega

/-- An extra step keeps a record sound: while extra steps are left, no own step has run (R84). -/
theorem InFlight.sound.extraStep {f : InFlight} {n : Nat} (hs : f.sound) (he : f.extraLeft = n + 1) :
    InFlight.sound { f with extraLeft := n } := by
  obtain ⟨hr, h2, hk, hdone, hmore⟩ := hs
  exact ⟨hr, by change n ≤ 2; omega, fun h => by have := hk h; omega, hdone, hmore⟩

/-- An own step keeps a record sound: it completes a one-step operation, and the second one completes every operation (R83). -/
theorem InFlight.sound.ownStep {f g : InFlight} {s t : State} (hs : f.sound) (hd : f.done = false)
    (he : f.extraLeft = 0) (ho : ownStep f s = .ok (t, g)) : InFlight.sound { g with k := f.k + 1 } := by
  obtain ⟨hr, -, -, -, hmore⟩ := hs
  have hfr := ownStep_frame ho
  have hx : g.extraLeft = 0 := hfr.extraLeft.trans he
  refine ⟨(congrArg Op.reachable hfr.op).trans hr, hx.le.trans (by decide), fun _ => hx, fun _ => ?_, fun hg => .inr ?_⟩
  · change 1 ≤ f.k + 1 ∧ f.k + 1 ≤ 2
    have := hmore hd
    omega
  · change f.k + 1 = 1 ∧ g.op.twoSteps = true
    have hk : f.k = 0 := by
      by_contra hk
      rw [ownStep_done_of_later ho hk] at hg
      cases hg
    cases h2 : f.op.twoSteps with
    | false =>
      rw [ownStep_done_of_oneStep ho h2] at hg
      cases hg
    | true => exact ⟨by omega, (congrArg Op.twoSteps hfr.op).trans h2⟩

/-! ### The invariant along the moves of the host -/

theorem SequencerInv.sound {s : State} {f : InFlight} (hs : SequencerInv s) (hf : s.inflight = some f) : f.sound :=
  (hs.2.1 f hf).1

theorem SequencerInv.viewCounts {s : State} (hs : SequencerInv s) (v : DebugView) (hv : s.view = some v) :
    v.count = argumentCount v.opcode ∧ v.bytes.length = v.count :=
  hs.2.2 v hv

/-- With nothing in flight the invariant is about the debug view alone. -/
theorem sequencerInv_of_idle {s : State} (hi : s.inflight = none)
    (hv : ∀ v, s.view = some v → v.count = argumentCount v.opcode ∧ v.bytes.length = v.count) : SequencerInv s :=
  ⟨fun _ => hi, fun f hf => (by rw [hi] at hf; cases hf), hv⟩

/-- The invariant looks at the fault register, the in-flight record and the debug view alone. -/
theorem SequencerInv.congr {s t : State} (hs : SequencerInv s) (hi : t.inflight = s.inflight) (hf : t.fault = s.fault)
    (hv : t.view = s.view) : SequencerInv t := by
  unfold SequencerInv
  rw [hi, hf, hv]
  exact hs

/-- The record in flight may give way to a sound one with the same immediates. -/
theorem SequencerInv.replaceRecord {s t : State} {f g : InFlight} (hs : SequencerInv s) (hf : s.inflight = some f)
    (hg : t.inflight = some g) (hsound : g.sound) (himm : g.imm = f.imm) (hfault : t.fault = s.fault)
    (hview : t.view = s.view) : SequencerInv t := by
  obtain ⟨hidle, hrec, hv⟩ := hs
  refine ⟨fun hne => ?_, fun g' hg' => ?_, by rwa [hview]⟩
  · rw [hidle (hfault ▸ hne)] at hf
    cases hf
  · rw [hg] at hg'
    cases hg'
    rw [hview, himm]
    exact ⟨hsound, (hrec f hf).2⟩

theorem SequencerInv.raiseFault {s : State} (hs : SequencerInv s) (c : FaultCause) : SequencerInv (raiseFault c s) :=
  sequencerInv_of_idle rfl hs.viewCounts

theorem sequencerInv_construct (s : State) : SequencerInv (construct s) :=
  sequencerInv_of_idle rfl fun v hv => by cases hv

theorem SequencerInv.microStep {s : State} (hs : SequencerInv s) : SequencerInv (microStep s) := by
  rcases microStep_cases s with ⟨-, e⟩ | ⟨f, hf, hd, ⟨n, he, e⟩ | ⟨he, t, g, ho, e⟩ | ⟨-, c, -, e⟩⟩ <;> rw [e]
  · exact hs.congr rfl rfl rfl
  · exact hs.replaceRecord hf rfl ((hs.sound hf).extraStep he) rfl rfl rfl
  · have hfr := ownStep_frame ho
    exact hs.replaceRecord hf rfl ((hs.sound hf).ownStep hd he ho) hfr.imm hfr.control.fault hfr.control.view
  · exact hs.raiseFault c

theorem SequencerInv.stepCommand {s : State} (hs : SequencerInv s) : SequencerInv (stepCommand s) := by
  unfold Machine.stepCommand
  split
  · exact hs.congr rfl rfl rfl
  · exact hs.microStep

/-- The view a fetch writes shows as many bytes as R69 gives its opcode. -/
theorem view_afterFetch (m : CycleMode) {o : Byte} {operands : List Byte} (a : Word) (s : State)
    (hl : operands.length = argumentCount o) (v : DebugView) (hv : (afterFetch m o operands a s).view = some v) :
    v.count = argumentCount v.opcode ∧ v.bytes.length = v.count := by
  cases hv
  exact ⟨rfl, hl⟩

/-- An operation issued on the operand bytes of the fetch meets the invariant: the view shows its immediates (R181). -/
theorem sequencerInv_issued {m : CycleMode} {o : Byte} {operands : List Byte} {a : Word} {op : Op} {extra : Nat}
    {s : State} (hf : s.fault = none) (hl : operands.length = argumentCount o) (hop : op.Issuable extra) :
    SequencerInv { afterFetch m o operands a s with inflight := some (startInFlight op operands extra) } := by
  refine ⟨fun hne => absurd hf hne, fun f hf' => ?_, view_afterFetch m a s hl⟩
  cases hf'
  exact ⟨sound_startInFlight operands hop, _, rfl, rfl⟩

theorem SequencerInv.cycleCommand {m : CycleMode} {s t : State} (hs : SequencerInv s) (h : cycleCommand m s = .next t) :
    SequencerInv t := by
  rcases cycleCommand_issues h with ⟨why, rfl⟩ | ⟨c, a, rfl⟩ | ⟨hf, o, operands, a, hl, ⟨c, rfl⟩ | ⟨op, extra, hop, hi⟩⟩
  · exact hs.congr rfl rfl rfl
  · exact sequencerInv_of_idle rfl hs.viewCounts
  · exact sequencerInv_of_idle rfl (view_afterFetch m a s hl)
  · exact issue_keeps (fun _ hu => hu.microStep) (fun _ _ hu => hu.congr rfl rfl rfl) (sequencerInv_issued hf hl hop) hi

theorem SequencerInv.ownerWrite {a : Word} {v : Byte} {s t : State} (hs : SequencerInv s)
    (h : ownerWrite a v s = .next t) : SequencerInv t := by
  obtain ⟨-, -, rfl⟩ := ownerWrite_next h
  exact hs.congr rfl rfl rfl

/-- Settles O31: every move of the host keeps `SequencerInv`; CYCLE starts a sound record whose immediates the new view shows, each step
keeps the record sound, and a fault drops it. -/
theorem stepKeepsSequencerSound : Obligations.StepKeepsSequencerSound := fun _ _ hs h =>
  step_keeps (fun _ _ hu => hu.congr rfl rfl rfl) (fun u _ => sequencerInv_construct u) (fun _ _ _ hu => hu.cycleCommand)
    (fun _ hu => hu.stepCommand) (fun _ _ _ _ hu => hu.ownerWrite) hs h

/-- Settles O28: the reset state lists no byte, holds zero in F, and has nothing in flight and an empty view. -/
theorem resetMeetsInvariants : Obligations.ResetMeetsInvariants :=
  ⟨Memory.wf_empty, flagInv_construct State.reset, sequencerInv_construct State.reset, rfl⟩

end Sys2Proof.Machine
end

section
/-! Which instructions write PC, SP and F (10_state.md R23, R27, R31, R33): those whose operation's kind may write them. -/

namespace Sys2Proof.Machine

open Sys2Proof.Forms

/-- An instruction writes PC, SP, F and the storage, by the lists of the rules, where the kind of this operation may. -/
structure WritesAs (i : Instr) (op : Op) : Prop where
  pc : isJump i = op.mayJump
  sp : writesSp i = op.mayWriteSp
  flags : writesFlags i = op.mayWriteFlags
  mem : isStore i = op.mayStore

/-- Every instruction is an unimplemented one or issues an operation whose kind may write what the instruction is listed to write. -/
theorem exec_writesAs (i : Instr) :
    (∃ o operands, i = .unimplemented o operands) ∨
      ∃ op imm extra, WritesAs i op ∧ ∀ s, exec i s = issue op imm extra s := by
  cases i
  case unimplemented o operands => exact .inl ⟨o, operands, rfl⟩
  all_goals exact .inr ⟨_, _, _, ⟨rfl, rfl, rfl, rfl⟩, fun _ => rfl⟩

/-- What an instruction leaves unchanged, by the lists of the rules. -/
structure InstrWritesOnly (i : Instr) (s t : State) : Prop where
  pc : isJump i = false → t.pc = s.pc
  sp : writesSp i = false → KeepsSp s t
  flags : writesFlags i = false → t.f = s.f
  mem : isStore i = false → t.mem = s.mem

theorem exec_writesOnly {i : Instr} {s t : State} (h : exec i s = .next t) : InstrWritesOnly i s t := by
  rcases exec_writesAs i with ⟨o, operands, rfl⟩ | ⟨op, imm, extra, hw, hi⟩
  · cases h
    exact ⟨fun _ => rfl, fun _ => ⟨rfl, rfl⟩, fun _ => rfl, fun _ => rfl⟩
  · have ho : WritesOnly op s t := issue_writesOnly (hi s ▸ h)
    exact ⟨fun x => ho.pc (hw.pc ▸ x), fun x => ho.sp (hw.sp ▸ x), fun x => ho.flags (hw.flags ▸ x),
      fun x => ho.mem (hw.mem ▸ x)⟩

/-- Settles O33: an instruction that is no jump issues an operation whose kind writes no PC. -/
theorem onlyJumpsWritePc : Obligations.OnlyJumpsWritePc := fun _ _ _ h => (exec_writesOnly h).pc

/-- Settles O34: an instruction that is not listed issues an operation whose kind writes no SP. -/
theorem onlySpInstructionsWriteSp : Obligations.OnlySpInstructionsWriteSp := fun _ _ _ h => (exec_writesOnly h).sp

/-- Settles O36: an instruction that is not listed issues an operation whose kind writes no flag. -/
theorem onlyFlagInstructionsWriteF : Obligations.OnlyFlagInstructionsWriteF := fun _ _ _ h => (exec_writesOnly h).flags

end Sys2Proof.Machine
end

section
/-! Register pairs and flags (10_state.md R22 to R29), and the half-updated pair between the two steps of INC rr and DEC rr
(44_inc_dec16.md R151, R152). -/

namespace Sys2Proof.Machine

open Sys2Proof.Forms

/-! ### Pairs by their bytes -/

@[simp] theorem readPair_setPairLow (p : Pair) (w : Byte) (s : State) :
    readPair p (setPairLow p w s) = joinBytes (pairHigh p s) w := by
  simp [readPair]

@[simp] theorem readPair_setPairHigh (p : Pair) (w : Byte) (s : State) :
    readPair p (setPairHigh p w s) = joinBytes w (pairLow p s) := by
  simp [readPair]

theorem KeepsRegsBut.trans {rs : List Reg} {s t u : State} (h : KeepsRegsBut rs s t) (k : KeepsRegsBut rs t u) :
    KeepsRegsBut rs s u :=
  fun r hr => (k r hr).trans (h r hr)

theorem keepsRegsBut_setPairHigh (p : Pair) (v : Byte) (s : State) : KeepsRegsBut (pairRegs p) s (setPairHigh p v s) := by
  intro r hr
  cases p <;> cases r <;> first
    | rfl
    | simp [pairRegs] at hr

theorem keepsRegsBut_setPairLow (p : Pair) (v : Byte) (s : State) : KeepsRegsBut (pairRegs p) s (setPairLow p v s) := by
  intro r hr
  cases p <;> cases r <;> first
    | rfl
    | simp [pairRegs] at hr

/-- A pair write is a write of its high byte and one of its low byte, and leaves every other register (R26). -/
theorem keepsRegsBut_writePair (p : Pair) (v : Word) (s : State) : KeepsRegsBut (pairRegs p) s (writePair p v s) :=
  (keepsRegsBut_setPairHigh p (hiByte v) s).trans (keepsRegsBut_setPairLow p (loByte v) _)

/-- Settles O1: by the value of a join, and by the definitions of the pair table and of the pair read. -/
theorem pairReadJoinsItsTwoRegisters : Obligations.PairReadJoinsItsTwoRegisters :=
  ⟨joinBytes_toNat, ⟨rfl, rfl, rfl, rfl⟩, fun _ => ⟨rfl, rfl, rfl, rfl⟩⟩

/-- Settles O2: from the read after each write and the frame of `writePair`. -/
theorem pairWriteSetsBothBytesAndNothingElse : Obligations.PairWriteSetsBothBytesAndNothingElse := fun p v w s =>
  ⟨readPair_writePair p v s, keepsRegsBut_writePair p v s, readPair_setPairLow p w s, readPair_setPairHigh p w s⟩

/-! ### Flags -/

theorem keepsRegsBut_setFlag (fl : Flag) (on : Bool) (s : State) : KeepsRegsBut [.f] s (setFlag fl on s) := by
  intro r hr
  cases r
  case f => simp at hr
  all_goals rfl

/-- Settles O3: the flag positions by definition, the one bit `SetFlag` writes by `putBit_getLsbD`. -/
theorem setFlagWritesOneBit : Obligations.SetFlagWritesOneBit :=
  ⟨⟨rfl, rfl, rfl, rfl⟩, fun _ => ⟨rfl, rfl, rfl, rfl⟩, fun fl on s =>
    ⟨fun k => putBit_getLsbD s.f (flagBit fl) k on (flagBit_lt fl), keepsRegsBut_setFlag fl on s, fun _ => rfl, rfl⟩⟩

/-! ### The half-updated pair -/

theorem exec_incPair : ∀ e ∈ incPair, ∀ s, exec e.1 s = issue (.inc16 e.2) [] 0 s := by
  intro e he s
  fin_cases he <;> rfl

theorem exec_decPair : ∀ e ∈ decPair, ∀ s, exec e.1 s = issue (.dec16 e.2) [] 0 s := by
  intro e he s
  fin_cases he <;> rfl

/-- STEP after CYCLE(Hand) of an operation with no extra step runs the operation's first own step. -/
theorem stepCommand_issued_hand {op : Op} {imm : List Byte} {s u : State} {g : InFlight} (hf : s.fault = none)
    (ho : ownStep (startInFlight op imm 0) s = .ok (u, g)) (q : Option Result) :
    stepCommand (withSeq (some (startInFlight op imm 0)) q s) =
      withSeq (some { g with k := 1 }) (some (.stepped g.done)) u := by
  have ho' : ownStep (startInFlight op imm 0) (withSeq (some (startInFlight op imm 0)) q s) =
      .ok (withSeq (some (startInFlight op imm 0)) q u, g) := by
    rw [ownStep_withSeq, ho]; rfl
  rw [stepCommand_eq (s := withSeq _ q s) hf, microStep_own rfl rfl rfl ho']
  rfl

theorem readPair_withSeq (p : Pair) (x : Option InFlight) (r : Option Result) (s : State) :
    readPair p (withSeq x r s) = readPair p s := by
  cases p <;> rfl

/-- An operation whose first own step writes the low byte of a pair and does not complete shows the half-updated pair after that step
(70_reset_and_hazards.md R186 (c)). -/
theorem halfUpdated_of_firstStep {op : Op} {p : Pair} {w : Byte} {s : State} {g : InFlight} (hm : s.mode = .hand)
    (hf : s.fault = none) (ho : ownStep (startInFlight op [] 0) s = .ok (setPairLow p w s, g)) (hg : g.done = false) :
    ∃ t, issue op [] 0 s = .next t ∧ t.busy = true ∧ (stepCommand t).busy = true ∧
      readPair p (stepCommand t) = joinBytes (pairHigh p s) w := by
  refine ⟨_, issue_hand hm, rfl, ?_⟩
  rw [stepCommand_issued_hand hf ho, readPair_withSeq, readPair_setPairLow]
  exact ⟨by simp [State.busy, hg], rfl⟩

/-- Settles O56: INC rr and DEC rr issue an operation whose first own step writes the low byte alone. -/
theorem halfUpdatedPairIsVisible : Obligations.HalfUpdatedPairIsVisible := by
  intro s hm hf
  refine ⟨fun e he => ?_, fun e he => ?_⟩
  · rw [exec_incPair e he]
    exact halfUpdated_of_firstStep hm hf rfl rfl
  · rw [exec_decPair e he]
    exact halfUpdated_of_firstStep hm hf rfl rfl

end Sys2Proof.Machine
end

section
/-! The canonical form of the storage (20_memory.md R40, R41; log entry 3) and the instruction held in flight (R58 (a)) along the moves of the
host, and the write of the memory owner (R55). -/

namespace Sys2Proof.Machine

/-! ### The canonical form of the storage -/

/-- The invariant looks at the storage alone. -/
theorem MemInv.congr {s t : State} (hs : MemInv s) (h : t.mem = s.mem) : MemInv t :=
  (congrArg Memory.wf h).trans hs

/-- The storage with one byte written at a 16-bit address meets the invariant. -/
theorem MemInv.write {s t : State} {a : Word} {v : Byte} (hs : MemInv s) (h : t.mem = s.mem.write a.toNat v) : MemInv t :=
  (congrArg Memory.wf h).trans (Memory.write_wf hs a.isLt)

/-- An own step leaves the storage or writes one byte of it. -/
theorem MemInv.microStep {s : State} (hs : MemInv s) : MemInv (microStep s) := by
  rcases microStep_cases s with ⟨-, e⟩ | ⟨f, -, -, ⟨n, -, e⟩ | ⟨-, t, g, ho, e⟩ | ⟨-, c, -, e⟩⟩ <;> rw [e]
  · exact hs.congr rfl
  · exact hs.congr rfl
  · rcases (ownStep_frame ho).mem with hm | ⟨w, v, hm⟩
    · exact hs.congr hm
    · exact hs.write hm
  · exact hs.congr rfl

theorem MemInv.stepCommand {s : State} (hs : MemInv s) : MemInv (stepCommand s) := by
  unfold Machine.stepCommand
  split
  · exact hs.congr rfl
  · exact hs.microStep

/-- The fetch writes no byte, and the issued operation runs by micro-steps. -/
theorem MemInv.cycleCommand {m : CycleMode} {s t : State} (hs : MemInv s) (h : cycleCommand m s = .next t) : MemInv t := by
  rcases cycleCommand_issues h with ⟨why, rfl⟩ | ⟨c, a, rfl⟩ | ⟨-, o, operands, a, -, ⟨c, rfl⟩ | ⟨op, extra, -, hi⟩⟩
  · exact hs.congr rfl
  · exact hs.congr rfl
  · exact hs.congr rfl
  · have hstart : MemInv { afterFetch m o operands a s with inflight := some (startInFlight op operands extra) } :=
      hs.congr rfl
    exact issue_keeps (fun _ hu => hu.microStep) (fun _ _ hu => hu.congr rfl) hstart hi

theorem MemInv.ownerWrite {a : Word} {v : Byte} {s t : State} (hs : MemInv s) (h : ownerWrite a v s = .next t) :
    MemInv t := by
  obtain ⟨-, -, rfl⟩ := ownerWrite_next h
  exact hs.write rfl

/-- Settles O29: every move of the host leaves the storage or writes single bytes at 16-bit addresses, and such a write keeps the
canonical form. -/
theorem stepKeepsMemoryCanonical : Obligations.StepKeepsMemoryCanonical := fun _ _ hs h =>
  step_keeps (fun _ _ hu => hu.congr rfl) (fun _ hu => hu.congr rfl) (fun _ _ _ hu => hu.cycleCommand)
    (fun _ hu => hu.stepCommand) (fun _ _ _ _ hu => hu.ownerWrite) hs h

/-! ### The instruction held in flight -/

/-- One step of the in-flight instruction keeps its operation and its immediates while it keeps the record. -/
theorem microStep_keepsHeld {s : State} {f g : InFlight} (hf : s.inflight = some f) (hg : (microStep s).inflight = some g) :
    g.op = f.op ∧ g.imm = f.imm := by
  rcases microStep_cases s with ⟨-, e⟩ | ⟨f', hf', -, h⟩
  · rw [e] at hg
    cases hf.symm.trans hg
    exact ⟨rfl, rfl⟩
  · cases hf.symm.trans hf'
    rcases h with ⟨n, -, e⟩ | ⟨-, t, g', ho, e⟩ | ⟨-, c, -, e⟩ <;> rw [e] at hg <;> cases hg
    · exact ⟨rfl, rfl⟩
    · exact ⟨(ownStep_frame ho).op, (ownStep_frame ho).imm⟩

/-- Settles O18: a declined STEP keeps the whole record, and an own step keeps its operation and immediates. -/
theorem stepKeepsHeldInstruction : Obligations.StepKeepsHeldInstruction := by
  intro s f g hf hg
  unfold stepCommand at hg
  split at hg
  · cases hf.symm.trans hg
    exact ⟨rfl, rfl⟩
  · exact microStep_keepsHeld hf hg

/-! ### The memory owner's write -/

/-- The byte registers are neither in the storage nor on the host's list. -/
theorem keepsRegsBut_memHost (rs : List Reg) (m : Memory) (l : List HostMove) (s : State) :
    KeepsRegsBut rs s { s with mem := m, host := l } := by
  intro r _
  cases r <;> rfl

theorem step_ownerWrite {s : State} {a : Word} {v : Byte} {rest : List HostMove} (h : s.host = .ownerWrite a v :: rest) :
    step s = ownerWrite a v { s with host := rest } := by
  simp [step, nextMove, h, perform]

theorem ownerWrite_busy {s : State} (a : Word) (v : Byte) (hb : s.busy = true) :
    ownerWrite a v s = .fault .ownerMidInstruction := by
  simp [ownerWrite, hb]

theorem ownerWrite_outside {s : State} {a : Word} (v : Byte) (hb : s.busy = false) (ha : s.memSize ≤ a.toNat) :
    ownerWrite a v s = .fault .ownerOutsideStorage := by
  simp [ownerWrite, hb, Nat.not_lt.mpr ha]

theorem ownerWrite_boundary {s : State} {a : Word} (v : Byte) (hb : s.busy = false) (ha : a.toNat < s.memSize) :
    ownerWrite a v s = .next { s with mem := s.mem.write a.toNat v } := by
  simp [ownerWrite, hb, ha]

/-- In a canonical storage the byte written is read back. -/
theorem MemInv.read_write_same {s : State} (hs : MemInv s) (a : Nat) (v : Byte) : (s.mem.write a v).read a = v :=
  (Memory.read_write hs).trans (if_pos rfl)

/-- In a canonical storage a write leaves every other byte. -/
theorem MemInv.read_write_of_ne {s : State} (hs : MemInv s) {a b : Nat} (v : Byte) (h : b ≠ a) :
    (s.mem.write a v).read b = s.mem.read b :=
  (Memory.read_write hs).trans (if_neg h.symm)

/-- Settles O26: the step performs the owner's write, by the three cases of its two checks. -/
theorem ownerWritesOnlyAtBoundary : Obligations.OwnerWritesOnlyAtBoundary := by
  intro s a v rest h
  rw [step_ownerWrite h]
  refine ⟨fun hb => ownerWrite_busy a v hb, fun hb ha => ownerWrite_outside v hb ha, fun hb ha hs => ?_⟩
  exact ⟨_, ownerWrite_boundary v hb ha, hs.read_write_same _ v, fun b hne => hs.read_write_of_ne v hne,
    keepsRegsBut_memHost [] _ rest s, rfl, rfl, rfl, rfl, rfl, rfl⟩

end Sys2Proof.Machine
end

section
/-! `Dereference` (20_memory.md R48), and the fault of a data access outside the storage (R43; 60_exceptions.md R166, R168). -/

namespace Sys2Proof.Machine

open Sys2Proof.Forms

/-! ### Dereference -/

theorem KeepsRegsBut.refl (rs : List Reg) (s : State) : KeepsRegsBut rs s s := fun _ _ => rfl

/-- The address is the pair as it is before a post-modification, and as it is after the pre-decrement. -/
theorem dereference_address (p : Pair) (post : PostOp) (s : State) :
    (dereference p post s).1 = if post = .preDec then readPair p s - 1 else readPair p s := by
  cases post <;> rfl

theorem keepsRegsBut_dereference (p : Pair) (post : PostOp) (s : State) :
    KeepsRegsBut (pairRegs p) s (dereference p post s).2 := by
  cases post with
  | keep => exact .refl _ s
  | postInc => exact keepsRegsBut_writePair p _ s
  | postDec => exact keepsRegsBut_writePair p _ s
  | preDec => exact keepsRegsBut_writePair p _ s

theorem keepsMemory_dereference (p : Pair) (post : PostOp) (s : State) : KeepsMemory s (dereference p post s).2 := by
  obtain ⟨-, hm, -⟩ := dereference_spec p post s
  exact fun a => by rw [hm]

/-- Settles O4: each mode leaves the pair or writes it once, and reading a pair after writing it gives the value written. -/
theorem dereferenceModes : Obligations.DereferenceModes := fun p s =>
  ⟨fun post => dereference_address p post s, rfl, readPair_writePair p _ s, readPair_writePair p _ s,
    readPair_writePair p _ s, fun post => ⟨keepsRegsBut_dereference p post s, keepsMemory_dereference p post s⟩⟩

/-! ### Accesses outside the storage -/

/-- The pair whose value is the address of a place; none for a register, nor where the pair is decremented first. -/
def Loc.addressPair : Loc → Option Pair
  | .slot sl => if sl = .mhl then some .hl else none
  | .ind p post => if post = .preDec then none else some p

/-- A source in the storage. -/
def Src.inMemory : Src → Bool
  | .loc x => x.inMemory
  | .imm _ => false

/-- The pair whose value is the address of a source, as for a place. -/
def Src.addressPair : Src → Option Pair
  | .loc x => x.addressPair
  | .imm _ => none

/-- The pair whose value is the address of the operation's first data access, where that is so: a load reads its source before it writes
its destination. -/
def Op.addressPair : Op → Option Pair
  | .increase sl | .decrease sl => (Loc.slot sl).addressPair
  | .load dst src => if src.inMemory then src.addressPair else dst.addressPair
  | .alu _ src => src.addressPair
  | _ => none

section
variable {p : Pair} {s : State} (hout : s.memSize ≤ (readPair p s).toNat)
include hout

theorem readSlot_outside {sl : Slot} (h : (Loc.slot sl).addressPair = some p) :
    readSlot sl s = .error (.outOfRange (readPair p s)) := by
  obtain ⟨rfl, rfl⟩ : sl = .mhl ∧ Pair.hl = p := by simpa [Loc.addressPair] using h
  exact memRead_outOfRange hout

theorem readLoc_outside {x : Loc} (h : x.addressPair = some p) :
    readLoc x s = .error (.outOfRange (readPair p s)) := by
  cases x with
  | slot sl => simp only [readLoc, readSlot_outside hout h]
  | ind q post =>
    obtain ⟨hpost, rfl⟩ : post ≠ .preDec ∧ q = p := by simpa [Loc.addressPair] using h
    have hsize := (dereference_spec q post s).1.memSize
    simp only [readLoc, dereference_address, if_neg hpost, memRead_outOfRange (hsize.le.trans hout)]

theorem writeLoc_outside {x : Loc} (v : Byte) (h : x.addressPair = some p) :
    writeLoc x v s = .error (.outOfRange (readPair p s)) := by
  cases x with
  | slot sl =>
    obtain ⟨rfl, rfl⟩ : sl = .mhl ∧ Pair.hl = p := by simpa [Loc.addressPair] using h
    exact memWrite_outOfRange hout
  | ind q post =>
    obtain ⟨hpost, rfl⟩ : post ≠ .preDec ∧ q = p := by simpa [Loc.addressPair] using h
    have hsize := (dereference_spec q post s).1.memSize
    simp only [writeLoc, dereference_address, if_neg hpost, memWrite_outOfRange (hsize.le.trans hout)]

theorem readSrc_outside {x : Src} (h : x.addressPair = some p) :
    readSrc x s = .error (.outOfRange (readPair p s)) := by
  cases x with
  | loc x => exact readLoc_outside hout h
  | imm d8 => cases h

end

/-- A source that is not in the storage is read without a fault and without an effect. -/
theorem readSrc_of_not_inMemory {x : Src} (s : State) (h : x.inMemory = false) : ∃ v, readSrc x s = .ok (v, s) := by
  rcases x with (sl | ⟨q, post⟩) | d8
  · cases sl
    case mhl => cases h
    all_goals exact ⟨_, rfl⟩
  · cases h
  · exact ⟨d8, rfl⟩

/-- The own step of an operation whose data access is outside the storage takes the fault of its address. -/
theorem ownStep_outside {f : InFlight} {p : Pair} {s : State} (h : f.op.addressPair = some p)
    (hout : s.memSize ≤ (readPair p s).toNat) : ownStep f s = .error (.outOfRange (readPair p s)) := by
  cases ho : f.op <;> rw [ho] at h
  case increase sl => simp only [ownStep, ho, stepIncrease, readSlot_outside hout h]
  case decrease sl => simp only [ownStep, ho, stepDecrease, readSlot_outside hout h]
  case alu kind src => simp only [ownStep, ho, stepAlu, readSrc_outside hout h]
  case load dst src =>
    cases hsrc : src.inMemory with
    | true =>
      have hread := readSrc_outside hout (x := src) (by simpa [Op.addressPair, hsrc] using h)
      simp only [ownStep, ho, stepLoad, hread]
    | false =>
      obtain ⟨v, hread⟩ := readSrc_of_not_inMemory s hsrc
      have hwrite := writeLoc_outside hout (x := dst) v (by simpa [Op.addressPair, hsrc] using h)
      simp only [ownStep, ho, stepLoad, hread, hwrite]
  all_goals cases h

/-- Every form that accesses the storage issues an operation whose address is the form's pair. -/
theorem exec_memForms (d8 : Byte) : ∀ e ∈ memForms d8, ∃ op imm extra,
    op.addressPair = some e.2 ∧ ∀ s, exec e.1 s = issue op imm extra s := by
  intro e he
  fin_cases he <;> exact ⟨_, _, _, rfl, fun _ => rfl⟩

/-- Settles O23: the form's one own step faults on its access, and a fault of it is taken on the state as it was issued in. -/
theorem dataAccessOutOfRangeChangesNothingElse : Obligations.DataAccessOutOfRangeChangesNothingElse := by
  intro d8 e he s hm hout
  obtain ⟨op, imm, extra, hop, hi⟩ := exec_memForms d8 e he
  rw [hi, issue_run_fault hm (ownStep_outside (f := startInFlight op imm 0) hop hout)]
  rfl

end Sys2Proof.Machine
end

section
/-! PUSH and POP (45_stack.md R156, R157), which no opcode reaches: each is two steps of one byte, and POP undoes PUSH. -/

namespace Sys2Proof.Machine

open Sys2Proof.Forms

/-! ### Frames of registers -/

theorem KeepsRegsBut.mono {rs qs : List Reg} {s t : State} (h : KeepsRegsBut rs s t) (hsub : rs ⊆ qs) :
    KeepsRegsBut qs s t :=
  fun r hr => h r fun hmem => hr (hsub hmem)

theorem joinBytes_inj {hi lo hi' lo' : Byte} (h : joinBytes hi lo = joinBytes hi' lo') : hi = hi' ∧ lo = lo' := by
  constructor
  · rw [← hiByte_joinBytes hi lo, h, hiByte_joinBytes]
  · rw [← loByte_joinBytes hi lo, h, loByte_joinBytes]

/-- The registers of a pair hold the pair's two bytes. -/
theorem regValue_of_mem_pairRegs {p : Pair} {r : Reg} (hr : r ∈ pairRegs p) :
    (∀ s, regValue r s = pairHigh p s) ∨ ∀ s, regValue r s = pairLow p s := by
  cases p <;> cases r <;> first
    | exact .inl fun _ => rfl
    | exact .inr fun _ => rfl
    | exact absurd hr (by decide)

/-- A pair that reads as before may be taken off the registers that a frame leaves out. -/
theorem KeepsRegsBut.of_readPair {p : Pair} {rs : List Reg} {s t : State} (h : KeepsRegsBut (pairRegs p ++ rs) s t)
    (hp : readPair p t = readPair p s) : KeepsRegsBut rs s t := by
  obtain ⟨hhigh, hlow⟩ := joinBytes_inj hp
  intro r hr
  by_cases hmem : r ∈ pairRegs p
  · rcases regValue_of_mem_pairRegs hmem with e | e <;> rw [e, e]
    · exact hhigh
    · exact hlow
  · exact h r fun h' => (List.mem_append.mp h').elim hmem hr

/-! ### Another pair than the one written -/

section
variable {p q : Pair} (hpq : p ≠ q)
include hpq

theorem pairHigh_setPairHigh_of_ne (v : Byte) (s : State) : pairHigh p (setPairHigh q v s) = pairHigh p s := by
  cases p <;> cases q <;> first
    | rfl
    | exact absurd rfl hpq

theorem pairLow_setPairLow_of_ne (v : Byte) (s : State) : pairLow p (setPairLow q v s) = pairLow p s := by
  cases p <;> cases q <;> first
    | rfl
    | exact absurd rfl hpq

theorem pairHigh_writePair_of_ne (v : Word) (s : State) : pairHigh p (writePair q v s) = pairHigh p s := by
  simp [writePair, pairHigh_setPairHigh_of_ne hpq]

theorem pairLow_writePair_of_ne (v : Word) (s : State) : pairLow p (writePair q v s) = pairLow p s := by
  simp [writePair, pairLow_setPairLow_of_ne hpq]

theorem readPair_setPairHigh_of_ne (v : Byte) (s : State) : readPair p (setPairHigh q v s) = readPair p s := by
  simp [readPair, pairHigh_setPairHigh_of_ne hpq]

theorem readPair_setPairLow_of_ne (v : Byte) (s : State) : readPair p (setPairLow q v s) = readPair p s := by
  simp [readPair, pairLow_setPairLow_of_ne hpq]

end

/-- What the low byte of a pair is after a write of a pair rests on what it was before alone. -/
theorem pairLow_writePair_congr {p q : Pair} {s t : State} (v : Word) (h : p ≠ q → pairLow p t = pairLow p s) :
    pairLow p (writePair q v t) = pairLow p (writePair q v s) := by
  by_cases hpq : p = q
  · subst hpq
    simp [writePair]
  · rw [pairLow_writePair_of_ne hpq, pairLow_writePair_of_ne hpq, h hpq]

/-! ### Two own steps -/

theorem twoOwnSteps_of_ownSteps {op : Op} {s t u : State} {f g : InFlight}
    (h0 : ownStep (startInFlight op [] 0) s = .ok (t, f)) (h1 : ownStep { f with k := 1 } t = .ok (u, g)) :
    twoOwnSteps op s = some u := by
  simp only [twoOwnSteps, h0, h1]

/-! ### PUSH -/

/-- SP decremented and a byte stored at the new SP. -/
def pushByte (v : Byte) (s : State) : State :=
  { writePair .sp (readPair .sp s - 1) s with mem := s.mem.write (readPair .sp s - 1).toNat v }

/-- The step of PUSH that stores the pair's high byte, as it is after the decrement of SP. -/
def pushHigh (p : Pair) (s : State) : State := pushByte (pairHigh p (writePair .sp (readPair .sp s - 1) s)) s

/-- The step of PUSH that stores the pair's low byte, as it is after the decrement of SP. -/
def pushLow (p : Pair) (s : State) : State := pushByte (pairLow p (writePair .sp (readPair .sp s - 1) s)) s

theorem readPair_sp_pushByte (v : Byte) (s : State) : readPair .sp (pushByte v s) = readPair .sp s - 1 :=
  readPair_writePair .sp _ s

/-- The second decrement of SP, after the first step of PUSH. -/
theorem readPair_sp_pushHigh_pred (p : Pair) (s : State) : readPair .sp (pushHigh p s) - 1 = readPair .sp s - 2 := by
  rw [pushHigh, readPair_sp_pushByte]
  bv_omega

theorem pairLow_pushByte_of_ne {p : Pair} (hp : p ≠ .sp) (v : Byte) (s : State) :
    pairLow p (pushByte v s) = pairLow p s := by
  cases p <;> first
    | rfl
    | exact absurd rfl hp

theorem keepsRegsBut_pushByte (v : Byte) (s : State) : KeepsRegsBut (pairRegs .sp) s (pushByte v s) :=
  (keepsRegsBut_writePair .sp _ s).trans (keepsRegsBut_memHost _ _ s.host (writePair .sp _ s))

theorem MemInv.pushByte {s : State} (hs : MemInv s) (v : Byte) : MemInv (pushByte v s) := hs.write rfl

section
variable {s : State} (hin : (readPair .sp s - 1).toNat < s.memSize)
include hin

theorem memWrite_pushByte (v : Byte) :
    memWrite (dereference .sp .preDec s).2 (dereference .sp .preDec s).1 v = .ok (pushByte v s) :=
  memWrite_inRange (s := writePair .sp (readPair .sp s - 1) s) hin

theorem ownStep_push_first (p : Pair) :
    ownStep (startInFlight (.push p) [] 0) s = .ok (pushHigh p s, startInFlight (.push p) [] 0) := by
  simp only [ownStep, startInFlight, stepPush, memWrite_pushByte hin]
  rfl

theorem ownStep_push_second {p : Pair} {f : InFlight} (ho : f.op = .push p) (hk : f.k = 1) :
    ownStep f s = .ok (pushLow p s, finish f) := by
  simp only [ownStep, ho, stepPush, hk, memWrite_pushByte hin]
  rfl

end

theorem twoOwnSteps_push (p : Pair) {s : State} (hhigh : (readPair .sp s - 1).toNat < s.memSize)
    (hlow : (readPair .sp s - 2).toNat < s.memSize) : twoOwnSteps (.push p) s = some (pushLow p (pushHigh p s)) := by
  refine twoOwnSteps_of_ownSteps (ownStep_push_first hhigh p) (ownStep_push_second ?_ rfl rfl)
  rwa [readPair_sp_pushHigh_pred]

/-- Settles O57: the two bytes are written at two different addresses, so the second write leaves the first one. -/
theorem pushStoresHighThenLow : Obligations.PushStoresHighThenLow := by
  intro p s hs hhigh hlow
  have hs' : MemInv (pushHigh p s) := hs.pushByte _
  have hmem : (pushLow p (pushHigh p s)).mem = (pushHigh p s).mem.write (readPair .sp s - 2).toNat
      (pairLow p (writePair .sp (readPair .sp s - 2) (pushHigh p s))) := by
    rw [← readPair_sp_pushHigh_pred p s]; rfl
  have hne : (readPair .sp s - 1).toNat ≠ (readPair .sp s - 2).toNat := by bv_omega
  refine ⟨_, twoOwnSteps_push p hhigh hlow, ?_, ?_, fun a h1 h2 => ?_, ?_, ?_⟩
  · rw [hmem, hs'.read_write_of_ne _ hne]
    exact hs.read_write_same _ _
  · rw [hmem, hs'.read_write_same]
    exact pairLow_writePair_congr _ fun hp => pairLow_pushByte_of_ne hp _ s
  · rw [hmem, hs'.read_write_of_ne _ h2]
    exact hs.read_write_of_ne _ h1
  · rw [pushLow, readPair_sp_pushByte, readPair_sp_pushHigh_pred]
  · exact (keepsRegsBut_pushByte _ s).trans (keepsRegsBut_pushByte _ (pushHigh p s))

/-! ### POP -/

/-- The step of POP that reads the pair's low byte at SP, with SP incremented. -/
def popLow (p : Pair) (s : State) : State :=
  setPairLow p (s.mem.read (readPair .sp s).toNat) (writePair .sp (readPair .sp s + 1) s)

/-- The step of POP that reads the pair's high byte at SP, with SP incremented. -/
def popHigh (p : Pair) (s : State) : State :=
  setPairHigh p (s.mem.read (readPair .sp s).toNat) (writePair .sp (readPair .sp s + 1) s)

theorem mem_popLow (p : Pair) (s : State) : (popLow p s).mem = s.mem := by simp [popLow]

theorem memSize_popLow (p : Pair) (s : State) : (popLow p s).memSize = s.memSize := by simp [popLow]

theorem pairLow_popLow (p : Pair) (s : State) : pairLow p (popLow p s) = s.mem.read (readPair .sp s).toNat :=
  pairLow_setPairLow p _ _

theorem readPair_popHigh {p : Pair} (hp : p ≠ .sp) (s : State) :
    readPair p (popHigh p s) = joinBytes (s.mem.read (readPair .sp s).toNat) (pairLow p s) := by
  rw [popHigh, readPair_setPairHigh, pairLow_writePair_of_ne hp]

theorem readPair_sp_popLow {p : Pair} (hp : p ≠ .sp) (s : State) : readPair .sp (popLow p s) = readPair .sp s + 1 := by
  rw [popLow, readPair_setPairLow_of_ne hp.symm, readPair_writePair]

theorem readPair_sp_popHigh {p : Pair} (hp : p ≠ .sp) (s : State) : readPair .sp (popHigh p s) = readPair .sp s + 1 := by
  rw [popHigh, readPair_setPairHigh_of_ne hp.symm, readPair_writePair]

theorem keepsRegsBut_popLow (p : Pair) (s : State) : KeepsRegsBut (pairRegs p ++ pairRegs .sp) s (popLow p s) :=
  ((keepsRegsBut_writePair .sp _ s).mono (List.subset_append_right _ _)).trans
    ((keepsRegsBut_setPairLow p _ _).mono (List.subset_append_left _ _))

theorem keepsRegsBut_popHigh (p : Pair) (s : State) : KeepsRegsBut (pairRegs p ++ pairRegs .sp) s (popHigh p s) :=
  ((keepsRegsBut_writePair .sp _ s).mono (List.subset_append_right _ _)).trans
    ((keepsRegsBut_setPairHigh p _ _).mono (List.subset_append_left _ _))

section
variable {s : State} (hin : (readPair .sp s).toNat < s.memSize)
include hin

theorem memRead_top : memRead (dereference .sp .postInc s).2 (dereference .sp .postInc s).1 =
    .ok (s.mem.read (readPair .sp s).toNat) :=
  memRead_inRange (s := writePair .sp (readPair .sp s + 1) s) hin

theorem ownStep_pop_first (p : Pair) :
    ownStep (startInFlight (.pop p) [] 0) s = .ok (popLow p s, startInFlight (.pop p) [] 0) := by
  simp only [ownStep, startInFlight, stepPop, memRead_top hin]
  rfl

theorem ownStep_pop_second {p : Pair} {f : InFlight} (ho : f.op = .pop p) (hk : f.k = 1) :
    ownStep f s = .ok (popHigh p s, finish f) := by
  simp only [ownStep, ho, stepPop, hk, memRead_top hin]
  rfl

end

theorem twoOwnSteps_pop {p : Pair} (hp : p ≠ .sp) {s : State} (hlow : (readPair .sp s).toNat < s.memSize)
    (hhigh : (readPair .sp s + 1).toNat < s.memSize) : twoOwnSteps (.pop p) s = some (popHigh p (popLow p s)) := by
  refine twoOwnSteps_of_ownSteps (ownStep_pop_first hlow p) (ownStep_pop_second ?_ rfl rfl)
  rwa [readPair_sp_popLow hp, memSize_popLow]

/-- The pair that POP leaves: the byte at SP + 1 and the byte at SP. -/
theorem readPair_pop {p : Pair} (hp : p ≠ .sp) (s : State) : readPair p (popHigh p (popLow p s)) =
    joinBytes (s.mem.read (readPair .sp s + 1).toNat) (s.mem.read (readPair .sp s).toNat) := by
  rw [readPair_popHigh hp, pairLow_popLow, mem_popLow, readPair_sp_popLow hp]

/-! ### POP after PUSH -/

/-- Two own steps keep the size of the storage. -/
theorem memSize_of_twoOwnSteps {op : Op} {s u : State} (h : twoOwnSteps op s = some u) : u.memSize = s.memSize := by
  unfold twoOwnSteps at h
  split at h
  · cases h
  · next h0 =>
    split at h
    · cases h
    · next h1 =>
      cases h
      exact (ownStep_frame h1).control.memSize.trans (ownStep_frame h0).control.memSize

/-- Settles O58: POP reads back the two bytes that PUSH stored, at the addresses it stored them, and SP is moved down and up by two. -/
theorem popAfterPushRestores : Obligations.PopAfterPushRestores := by
  intro p s hp hs hhigh hlow
  obtain ⟨u, hpush, hreadHigh, hreadLow, -, hsp, hkeep⟩ := pushStoresHighThenLow p s hs hhigh hlow
  rw [pairHigh_writePair_of_ne hp] at hreadHigh
  rw [pairLow_writePair_of_ne hp] at hreadLow
  have hsp1 : readPair .sp u + 1 = readPair .sp s - 1 := by rw [hsp]; bv_omega
  have hpop : twoOwnSteps (.pop p) u = some (popHigh p (popLow p u)) := by
    refine twoOwnSteps_pop hp ?_ ?_ <;> rw [memSize_of_twoOwnSteps hpush]
    · rwa [hsp]
    · rwa [hsp1]
  have hpair : readPair p (popHigh p (popLow p u)) = readPair p s := by
    rw [readPair_pop hp, hsp1, hsp, hreadHigh, hreadLow]
    rfl
  have hspv : readPair .sp (popHigh p (popLow p u)) = readPair .sp s := by
    rw [readPair_sp_popHigh hp, readPair_sp_popLow hp, hsp]
    bv_omega
  have hregs : KeepsRegsBut (pairRegs p ++ pairRegs .sp) s (popHigh p (popLow p u)) :=
    (KeepsRegsBut.mono hkeep (List.subset_append_right _ _)).trans
      ((keepsRegsBut_popLow p u).trans (keepsRegsBut_popHigh p _))
  exact ⟨u, _, hpush, hpop, hpair, hspv, (hregs.of_readPair hpair).of_readPair (p := .sp) (rs := []) hspv⟩

end Sys2Proof.Machine
end

section
/-! The opcode byte by its fields (30_encoding.md R61), which opcodes are unimplemented (R75), and the two round trips between
instructions and their bytes (R60, R68 to R70). -/

namespace Sys2Proof.Machine

/-! ### The opcode byte by its fields -/

/-- A property holds of every byte if it holds of every byte spelled in the fields `x`, `y` and `z`. -/
theorem byte_of_fields {P : Byte → Prop} (h : ∀ (x : Fin 4) (y z : Fin 8), P (BitVec.ofNat 8 (64 * x + 8 * y + z)))
    (o : Byte) : P o := by
  have ho := o.isLt
  have e : BitVec.ofNat 8 (64 * (o.toNat / 64) + 8 * (o.toNat / 8 % 8) + o.toNat % 8) = o := by
    apply BitVec.eq_of_toNat_eq
    rw [BitVec.toNat_ofNat]
    omega
  exact e ▸ h ⟨o.toNat / 64, by omega⟩ ⟨o.toNat / 8 % 8, by omega⟩ ⟨o.toNat % 8, by omega⟩

theorem fieldX_lt (o : Byte) : fieldX o < 4 := Nat.mod_lt _ (by decide)

theorem fieldY_lt (o : Byte) : fieldY o < 8 := Nat.mod_lt _ (by decide)

theorem toNat_eq_fields (o : Byte) : o.toNat = 64 * fieldX o + 8 * fieldY o + fieldZ o := by
  have ho := o.isLt
  simp only [fieldX, fieldY, fieldZ, opField]
  omega

theorem lowerNibble_mod_eight (o : Byte) : lowerNibble o % 8 = fieldZ o := by
  simp only [lowerNibble, fieldZ, opField]
  omega

/-- The field arithmetic that R72 and R73 quote from the source: a block is four upper nibbles, and the operands are `y` and `z`. -/
theorem nibbles_eq_fields (o : Byte) :
    4 * fieldX o ≤ upperNibble o ∧ upperNibble o ≤ 4 * fieldX o + 3 ∧
      (o.toNat - lowerNibble o % 8) / 8 % 8 = fieldY o ∧ lowerNibble o % 8 = fieldZ o := by
  have ho := o.isLt
  simp only [upperNibble, lowerNibble, fieldX, fieldY, fieldZ, opField]
  omega

/-! ### The opcode map -/

/-- The map of R78 holds at each opcode an instruction with that opcode. -/
theorem opcode_decodeOpcode (o : Byte) (operands : List Byte) : opcode (decodeOpcode o operands) = o := by
  induction o using byte_of_fields with
  | h x y z => fin_cases x <;> fin_cases y <;> fin_cases z <;> rfl

/-- The map says unimplemented at each opcode that R75 lists. -/
theorem decodeOpcode_of_mem {o : Byte} (operands : List Byte) (h : o ∈ unimplementedOpcodes) :
    decodeOpcode o operands = .unimplemented o operands := by
  fin_cases h <;> rfl

/-- The instruction has no opcode of its own. -/
def isUnimplemented : Instr → Bool
  | .unimplemented _ _ => true
  | _ => false

/-- The map says unimplemented at no other opcode. -/
theorem isUnimplemented_decodeOpcode (o : Byte) (operands : List Byte) :
    isUnimplemented (decodeOpcode o operands) = unimplementedOpcodes.contains o := by
  induction o using byte_of_fields with
  | h x y z => fin_cases x <;> fin_cases y <;> fin_cases z <;> rfl

theorem mem_of_decodeOpcode_eq_unimplemented {o p : Byte} {operands ops : List Byte}
    (h : decodeOpcode o operands = .unimplemented p ops) : o ∈ unimplementedOpcodes := by
  have hu := isUnimplemented_decodeOpcode o operands
  rw [h] at hu
  exact List.contains_iff_mem.mp hu.symm

/-- Settles O9: the list has 70 different opcodes, and the map says unimplemented there and nowhere else. -/
theorem unimplementedIsExactlyTheSeventy : Obligations.UnimplementedIsExactlyTheSeventy :=
  ⟨rfl, by decide, fun o operands =>
    ⟨fun ⟨_, _, h⟩ => mem_of_decodeOpcode_eq_unimplemented h, fun h => ⟨o, operands, decodeOpcode_of_mem operands h⟩⟩⟩

/-! ### Well-formed instructions -/

/-- Only `unimplemented` can be ill-formed: by an opcode that R75 does not list or by a number of operand bytes that R69 does not give. -/
theorem wellFormed_iff (i : Instr) : i.wellFormed = true ↔
    ∀ o operands, i = .unimplemented o operands → o ∈ unimplementedOpcodes ∧ operands.length = argumentCount o := by
  cases i
  case unimplemented o operands => simp [Instr.wellFormed]
  all_goals exact ⟨fun _ _ _ h => (nomatch h), fun _ => rfl⟩

theorem length_operandBytes {i : Instr} (h : i.wellFormed = true) : (operandBytes i).length = argumentCount (opcode i) := by
  cases i
  case unimplemented o operands => exact ((wellFormed_iff _).mp h o operands rfl).2
  all_goals
    simp only [operandBytes, opcode, List.length_cons, List.length_nil]
    rfl

/-- The map of R78 holds a well-formed instruction at its own opcode, with the immediates that its operand bytes spell (R68). -/
theorem decodeOpcode_opcode {i : Instr} (h : i.wellFormed = true) : decodeOpcode (opcode i) (operandBytes i) = i := by
  cases i
  case unimplemented o operands => exact decodeOpcode_of_mem operands ((wellFormed_iff _).mp h o operands rfl).1
  all_goals simp only [opcode, operandBytes]
  case ldBC_d16 d16 => exact congrArg Instr.ldBC_d16 (joinBytes_split d16)
  case ldDE_d16 d16 => exact congrArg Instr.ldDE_d16 (joinBytes_split d16)
  case ldHL_d16 d16 => exact congrArg Instr.ldHL_d16 (joinBytes_split d16)
  case ldSP_d16 d16 => exact congrArg Instr.ldSP_d16 (joinBytes_split d16)
  all_goals rfl

/-- The map holds well-formed instructions: an unimplemented one has the listed opcode and the operand bytes it was decoded from. -/
theorem wellFormed_decodeOpcode {o : Byte} {operands : List Byte} (hl : operands.length = argumentCount o) :
    (decodeOpcode o operands).wellFormed = true := by
  refine (wellFormed_iff _).mpr fun p ops e => ?_
  have hp : p = o := by rw [← opcode_decodeOpcode o operands, e]; rfl
  have hops : ops = operands := by rw [← operandBytes_decodeOpcode hl, e]; rfl
  subst hp hops
  exact ⟨mem_of_decodeOpcode_eq_unimplemented e, hl⟩

/-! ### Byte strings -/

/-- A byte string decodes exactly if it starts with an opcode and as many operand bytes as R69 gives it. -/
theorem decode_eq_ok_iff {bytes rest : List Byte} {i : Instr} : decode bytes = .ok (i, rest) ↔
    ∃ o operands, operands.length = argumentCount o ∧ decodeOpcode o operands = i ∧ bytes = o :: operands ++ rest := by
  constructor
  · intro h
    cases bytes with
    | nil => cases h
    | cons o bs =>
      simp only [decode] at h
      split at h
      · cases h
      · next hl =>
        cases h
        exact ⟨o, _, List.length_take_of_le (Nat.not_lt.mp hl), rfl, by simp⟩
  · rintro ⟨o, operands, hl, rfl, rfl⟩
    simp [decode, ← hl]

/-- Settles O10: a well-formed instruction has as many operand bytes as its opcode asks for, and the map holds it at its opcode. -/
theorem decodeOfEncodeIsIdentity : Obligations.DecodeOfEncodeIsIdentity := fun _ _ h =>
  decode_eq_ok_iff.mpr ⟨_, _, length_operandBytes h, decodeOpcode_opcode h, rfl⟩

/-- Settles O11: the decoded instruction keeps the opcode and the operand bytes it was decoded from. -/
theorem encodeOfDecodeIsIdentity : Obligations.EncodeOfDecodeIsIdentity := by
  intro bytes rest i h
  obtain ⟨o, operands, hl, rfl, rfl⟩ := decode_eq_ok_iff.mp h
  refine ⟨wellFormed_decodeOpcode hl, ?_⟩
  rw [encode, opcode_decodeOpcode, operandBytes_decodeOpcode hl]

/-- Settles O12: each word is the encoding of its instruction, which is well-formed. -/
theorem sampleWordsDecode : Obligations.SampleWordsDecode := by
  have h (i : Instr) : i.wellFormed = true → decode (encode i ++ []) = .ok (i, []) := decodeOfEncodeIsIdentity i []
  exact ⟨h (.ldHL_d16 0x1234) rfl, h .ldA_B rfl, h .ldIndHLDec_A rfl, h .adcA_E rfl, h (.cpA_d8 0x3C) rfl, h .decIndHL rfl,
    h .rrca rfl, h .decSP rfl, h (.jrNC_e8 0x04) rfl, h (.unimplemented 0xCB [0x11]) rfl⟩

end Sys2Proof.Machine
end

section
/-! The opcode map of 30_encoding.md R78 against the region rules R71 to R75 with the extra steps of 40_sequencer.md R85: what each opcode
binds. -/

namespace Sys2Proof.Machine

/-! ### The region rules in the fields -/

/-- An opcode from 0xC6 up with `z = 6` is in block 3, and the kind that R74 counts from 0xC6 is its `y`. -/
theorem fields_of_aluImmediate {o : Byte} (ho : 0xC6 ≤ o.toNat) (hz : fieldZ o = 6) :
    fieldX o = 3 ∧ (o.toNat - 0xC6) / 8 = fieldY o := by
  have hx := fieldX_lt o
  have hy := fieldY_lt o
  rw [toNat_eq_fields] at *
  omega

/-- In the upper quarter of the opcodes the bound 0xC6 of R74 follows from `z = 6`. -/
theorem regionAluImm_eq {o : Byte} (operands : List Byte) (hx : fieldX o = 3) : regionAluImm o operands =
    if fieldZ o = 6 then some ⟨.alu (aluKindOfIndex (fieldY o)) (.imm (immD8 operands)), operands, 1⟩ else none := by
  by_cases hz : fieldZ o = 6
  · have ho : 0xC6 ≤ o.toNat := by rw [toNat_eq_fields]; omega
    simp [regionAluImm, hz, ho, (fields_of_aluImmediate ho hz).2]
  · simp [regionAluImm, hz]

theorem regionDecode_eq (o : Byte) (operands : List Byte) : regionDecode o operands =
    if fieldX o = 0 then regionBlock0 o operands
    else if fieldX o = 1 then regionBlock1 o operands
    else if fieldX o = 2 then regionBlock2 o operands
    else if fieldZ o = 6 then some ⟨.alu (aluKindOfIndex (fieldY o)) (.imm (immD8 operands)), operands, 1⟩
    else none := by
  by_cases hx : fieldX o = 3
  · rw [regionDecode, regionAluImm_eq operands hx]
  · have hlt := fieldX_lt o
    obtain h | h | h : fieldX o = 0 ∨ fieldX o = 1 ∨ fieldX o = 2 := by omega
    all_goals simp [regionDecode, h]

/-! ### What an opcode binds -/

/-- What a binding means for an instruction (R70): in the state it issues the operation on its operand bytes; where nothing is bound it is
the unimplemented instruction of its opcode. -/
def RunsAs (i : Instr) (s : State) : Option Binding → Prop
  | some b => exec i s = issue b.op (operandBytes i) b.extra s
  | none => i = .unimplemented (opcode i) (operandBytes i)

/-- Opcode by opcode, the map of R78 holds an instruction that runs as the region rules bind. -/
theorem decodeOpcode_runsAs (o : Byte) (operands : List Byte) (s : State) :
    RunsAs (decodeOpcode o operands) s (regionDecode o operands) := by
  rw [regionDecode_eq]
  induction o using byte_of_fields with
  | h x y z => fin_cases x <;> fin_cases y <;> fin_cases z <;> exact rfl

section
variable {o : Byte} {operands : List Byte} (hl : operands.length = argumentCount o)
include hl

theorem bindsTo_of_regionDecode {b : Binding} (h : regionDecode o operands = some b) : BindsTo o operands b.op b.extra := by
  intro s hm
  have hr := decodeOpcode_runsAs o operands s
  rw [h, RunsAs, operandBytes_decodeOpcode hl] at hr
  exact hr.trans (issue_hand hm)

theorem decodeOpcode_of_regionDecode (h : regionDecode o operands = none) :
    decodeOpcode o operands = .unimplemented o operands := by
  have hr := decodeOpcode_runsAs o operands State.reset
  rwa [h, RunsAs, opcode_decodeOpcode, operandBytes_decodeOpcode hl] at hr

end

/-! ### Block by block -/

/-- Settles O5: in block 0 the region rules are those of R71. -/
theorem block0BindsByRegionRules : Obligations.Block0BindsByRegionRules := by
  intro o operands hx hl
  have hr : regionDecode o operands = regionBlock0 o operands := by simp [regionDecode, hx]
  split
  · next hb => exact bindsTo_of_regionDecode hl (hr.trans hb)
  · next hb => exact decodeOpcode_of_regionDecode hl (hr.trans hb)

/-- No opcode of blocks 1 and 2 has an operand byte (R69). -/
theorem argumentCount_eq_zero : ∀ o : Byte, fieldX o = 1 ∨ fieldX o = 2 → argumentCount o = 0 := by decide

theorem eq_0x76_of_fields {o : Byte} (hx : fieldX o = 1) (hy : fieldY o = 6) (hz : fieldZ o = 6) : o = 0x76 := by
  apply BitVec.eq_of_toNat_eq
  rw [toNat_eq_fields, hx, hy, hz]
  rfl

/-- Settles O6: in block 1 the region rules are those of R72, which bind nothing exactly where `y = z = 6`. -/
theorem block1BindsSlotLoads : Obligations.Block1BindsSlotLoads := by
  intro o hx
  have hl : ([] : List Byte).length = argumentCount o := (argumentCount_eq_zero o (.inl hx)).symm
  have hr : regionDecode o [] = regionBlock1 o [] := by simp [regionDecode, hx]
  refine ⟨by simpa [hx] using nibbles_eq_fields o, ?_⟩
  by_cases h : fieldY o = 6 ∧ fieldZ o = 6
  · rw [if_pos h]
    exact ⟨eq_0x76_of_fields hx h.1 h.2, decodeOpcode_of_regionDecode hl (hr.trans (if_pos h))⟩
  · rw [if_neg h]
    exact ⟨_, bindsTo_of_regionDecode hl (hr.trans (if_neg h))⟩

/-- Settles O7: in block 2 the region rules are those of R73, which bind at every opcode. -/
theorem block2BindsAluOnSlots : Obligations.Block2BindsAluOnSlots := by
  intro o hx
  have hl : ([] : List Byte).length = argumentCount o := (argumentCount_eq_zero o (.inr hx)).symm
  have hr : regionDecode o [] = regionBlock2 o [] := by simp [regionDecode, hx]
  exact ⟨by simpa [hx] using nibbles_eq_fields o, _, bindsTo_of_regionDecode hl hr⟩

/-- The opcodes that R74 describes are the eight it lists, each with one operand byte (R69). -/
theorem aluImmediate_opcodes : ∀ o : Byte, 0xC6 ≤ o.toNat → lowerNibble o % 8 = 6 →
    o ∈ ([0xC6, 0xCE, 0xD6, 0xDE, 0xE6, 0xEE, 0xF6, 0xFE] : List Byte) ∧ argumentCount o = 1 := by decide

/-- Settles O8: at the listed opcodes the region rules are those of R74. -/
theorem aluImmediateRegionBinds : Obligations.AluImmediateRegionBinds := by
  intro o d8 ho hz
  obtain ⟨hmem, hcount⟩ := aluImmediate_opcodes o ho hz
  rw [lowerNibble_mod_eight] at hz
  obtain ⟨hx, hy⟩ := fields_of_aluImmediate ho hz
  have hr : regionDecode o [d8] = some ⟨.alu (aluKindOfIndex (fieldY o)) (.imm d8), [d8], 1⟩ := by
    simp [regionDecode_eq, hx, hz, immD8]
  have hl : [d8].length = argumentCount o := hcount.symm
  exact ⟨hmem, hy, _, bindsTo_of_regionDecode hl hr⟩

end Sys2Proof.Machine
end

section
/-! The steps of the instruction in flight, from the first to the one that ends it (40_sequencer.md R82 to R89): the same steps in Run mode
and in Hand mode (R93), and at most three of them (R85). -/

namespace Sys2Proof.Machine

/-! ### What one step answers -/

/-- The three answers of a step: not complete, complete with nothing left to step, or a fault. -/
theorem microStep_outcome (s : State) :
    ((microStep s).result = some (.stepped false) ∧ (microStep s).fault = s.fault) ∨
    ((microStep s).result = some (.stepped true) ∧ (microStep s).busy = false ∧ (microStep s).fault = s.fault) ∨
    ∃ c, microStep s = raiseFault c s := by
  rcases microStep_cases s with ⟨hb, e⟩ | ⟨f, -, -, ⟨n, -, e⟩ | ⟨-, t, g, ho, e⟩ | ⟨-, c, -, e⟩⟩ <;> rw [e]
  · exact .inr (.inl ⟨rfl, hb, rfl⟩)
  · exact .inl ⟨rfl, rfl⟩
  · have hfault := (ownStep_frame ho).control.fault
    cases hg : g.done with
    | false => exact .inl ⟨rfl, hfault⟩
    | true => exact .inr (.inl ⟨rfl, rfl, hfault⟩)
  · exact .inr (.inr ⟨c, rfl⟩)

theorem fault_microStep {s : State} (hr : (microStep s).result = some (.stepped false)) : (microStep s).fault = s.fault := by
  rcases microStep_outcome s with ⟨-, hf⟩ | ⟨-, -, hf⟩ | ⟨c, e⟩
  · exact hf
  · exact hf
  · rw [e] at hr
    cases hr

/-- The most steps that can be left: the extra steps, and the own steps of the kind (R83) that have not run. -/
def InFlight.stepsLeft (f : InFlight) : Nat := f.extraLeft + if f.op.twoSteps ∧ f.k = 0 then 2 else 1

theorem InFlight.stepsLeft_pos (f : InFlight) : 0 < f.stepsLeft := by
  unfold InFlight.stepsLeft
  split <;> omega

/-- The record that a decode creates has at most three steps left, and no more than bound a run (R85, R88). -/
theorem stepsLeft_startInFlight {op : Op} {extra : Nat} (imm : List Byte) (h : op.Issuable extra) :
    (startInFlight op imm extra).stepsLeft ≤ 3 ∧ (startInFlight op imm extra).stepsLeft ≤ extra + maxOwnSteps := by
  obtain ⟨-, he⟩ := h
  have e : (startInFlight op imm extra).stepsLeft = extra + if op.twoSteps then 2 else 1 := by
    simp [InFlight.stepsLeft, startInFlight]
  rw [e]
  refine ⟨he, ?_⟩
  unfold maxOwnSteps
  split <;> omega

/-- A step that answers 'not complete' leaves a record in flight with one step less left. -/
theorem stepsLeft_microStep {s : State} {f : InFlight} (hf : s.inflight = some f) (hd : f.done = false)
    (hr : (microStep s).result = some (.stepped false)) :
    ∃ g, (microStep s).inflight = some g ∧ g.done = false ∧ g.stepsLeft + 1 = f.stepsLeft := by
  rcases microStep_cases s with ⟨-, e⟩ | ⟨f', hf', -, h⟩
  · rw [e] at hr
    cases hr
  · cases hf.symm.trans hf'
    rcases h with ⟨n, he, e⟩ | ⟨he, t, g, ho, e⟩ | ⟨-, c, -, e⟩ <;> rw [e] at hr ⊢
    · exact ⟨_, rfl, hd, by simp only [InFlight.stepsLeft, he]; omega⟩
    · have hg : g.done = false := by simpa using hr
      have hk : f.k = 0 := by
        by_contra hk
        simp [ownStep_done_of_later ho hk] at hg
      have h2 : f.op.twoSteps = true := by
        by_contra h2
        simp [ownStep_done_of_oneStep ho (by simpa using h2)] at hg
      have hx : g.extraLeft = 0 := (ownStep_frame ho).extraLeft.trans he
      exact ⟨_, rfl, hg, by simp [InFlight.stepsLeft, he, hx, hk, h2]⟩
    · cases hr

/-! ### The steps to the end of an instruction -/

/-- `n` steps lead from the first state to the second; each but the last answers 'not complete', and the last does not. -/
inductive StepsTo : Nat → State → State → Prop
  | last {s : State} (h : (microStep s).result ≠ some (.stepped false)) : StepsTo 1 s (microStep s)
  | more {n : Nat} {s t : State} (h : (microStep s).result = some (.stepped false)) (hs : StepsTo n (microStep s) t) :
      StepsTo (n + 1) s t

theorem StepsTo.pos {n : Nat} {s t : State} (h : StepsTo n s t) : 1 ≤ n := by
  cases h <;> omega

/-- The steps of the instruction in flight come to an end before the steps that can be left are used up. -/
theorem exists_stepsTo {b : Nat} {s : State} {f : InFlight} (hf : s.inflight = some f) (hd : f.done = false)
    (hb : f.stepsLeft ≤ b) : ∃ n t, n ≤ b ∧ StepsTo n s t := by
  induction b generalizing s f with
  | zero => exact absurd f.stepsLeft_pos (Nat.not_lt.mpr hb)
  | succ b ih =>
    by_cases hr : (microStep s).result = some (.stepped false)
    · obtain ⟨g, hg, hgd, hleft⟩ := stepsLeft_microStep hf hd hr
      obtain ⟨n, t, hn, ht⟩ := ih hg hgd (by omega)
      exact ⟨n + 1, t, by omega, .more hr ht⟩
    · exact ⟨1, _, by omega, .last hr⟩

/-- The last step completes the instruction, with nothing left to step, or faults. -/
theorem StepsTo.outcome {n : Nat} {s t : State} (h : StepsTo n s t) :
    (t.result = some (.stepped true) ∧ t.busy = false ∧ t.fault = s.fault) ∨
    ∃ c, t.result = some (.fault c) ∧ t.fault = some c ∧ t.inflight = none := by
  induction h with
  | @last s hr =>
    rcases microStep_outcome s with ⟨h, -⟩ | h | ⟨c, e⟩
    · exact absurd h hr
    · exact .inl h
    · rw [e]
      exact .inr ⟨c, rfl, rfl, rfl⟩
  | more hr _ ih => rwa [fault_microStep hr] at ih

/-- What CYCLE(Run) answers when its last step, the `n`-th, has led to the state (R88). -/
def reportRun (n : Nat) (t : State) : State :=
  if t.result = some (.stepped true) then { t with result := some (.completed n) } else t

theorem reportRun_of_done (n : Nat) {t : State} (h : t.result = some (.stepped true)) :
    reportRun n t = { t with result := some (.completed n) } := if_pos h

theorem reportRun_of_fault (n : Nat) {t : State} {c : FaultCause} (h : t.result = some (.fault c)) : reportRun n t = t := by
  simp [reportRun, h]

/-- A run with steps enough takes them all and reports their number. -/
theorem StepsTo.runSteps {n fuel k : Nat} {s t : State} (h : StepsTo n s t) (hn : n ≤ fuel) :
    runSteps fuel k s = reportRun (k + n) t := by
  induction h generalizing fuel k with
  | @last s hr =>
    obtain ⟨fuel, rfl⟩ := Nat.exists_eq_add_of_le' hn
    rcases microStep_outcome s with ⟨h, -⟩ | ⟨h, -⟩ | ⟨c, e⟩
    · exact absurd h hr
    · simp [Machine.runSteps, reportRun, h]
    · simp [Machine.runSteps, reportRun, e, raiseFault]
  | @more n s t hr _ ih =>
    obtain ⟨fuel, rfl⟩ := Nat.exists_eq_add_of_le' (Nat.le_of_add_left_le hn)
    rw [Machine.runSteps, hr]
    exact (ih (by omega)).trans (by rw [Nat.add_right_comm, Nat.add_assoc])

/-- On a core without a fault STEP takes the same steps one by one (R89). -/
theorem StepsTo.stepTimes {n : Nat} {s t : State} (h : StepsTo n s t) (hf : s.fault = none) :
    stepTimes n s = t ∧ ∀ m, 1 ≤ m → m < n → (stepTimes m s).result = some (.stepped false) := by
  induction h with
  | last _ => exact ⟨stepCommand_eq hf, fun m h1 h2 => by omega⟩
  | @more n s t hr _ ih =>
    obtain ⟨hend, hbefore⟩ := ih ((fault_microStep hr).trans hf)
    simp only [Machine.stepTimes, stepCommand_eq hf]
    refine ⟨hend, fun m h1 h2 => ?_⟩
    obtain ⟨m, rfl⟩ := Nat.exists_eq_add_of_le' h1
    rw [Machine.stepTimes, stepCommand_eq hf]
    cases m with
    | zero => exact hr
    | succ m => exact hbefore (m + 1) (by omega) (by omega)

/-! ### The mode and the last result -/

/-- The state with another result and mode. -/
def recast (r : Option Result) (m : CycleMode) (s : State) : State := { s with result := r, mode := m }

/-- A step looks at neither the mode nor the result of the command before, and writes no mode. -/
theorem microStep_recast (r : Option Result) (m : CycleMode) (s : State) :
    microStep (recast r m s) = recast (microStep s).result m (microStep s) := by
  rcases microStep_cases s with ⟨hb, e⟩ | ⟨f, hf, hd, ⟨n, he, e⟩ | ⟨he, t, g, ho, e⟩ | ⟨he, c, ho, e⟩⟩ <;> rw [e]
  · exact microStep_idle hb
  · exact microStep_extra hf hd he
  · exact microStep_own (s := recast r m s) hf hd he ((ownStep_withControl s.inflight r m f s).trans (by rw [ho]; rfl))
  · exact microStep_fault (s := recast r m s) hf hd he ((ownStep_withControl s.inflight r m f s).trans (by rw [ho]; rfl))

theorem StepsTo.recast {n : Nat} {s t : State} (h : StepsTo n s t) (r : Option Result) (m : CycleMode) :
    StepsTo n (recast r m s) (recast t.result m t) := by
  induction h generalizing r with
  | @last s hr =>
    rw [← microStep_recast r]
    exact .last (by rwa [microStep_recast])
  | @more n s t hr _ ih =>
    exact .more (by rwa [microStep_recast]) (by rw [microStep_recast]; exact ih _)

/-! ### CYCLE in both modes -/

/-- An accepted CYCLE takes the fault of its fetch, or runs the instruction that it decodes, the same in both modes but for the mode field. -/
theorem cycleCommand_of_accepts {s : State} (h : s.accepts) :
    (∃ c u, ∀ m, cycleCommand m s = .next (raiseFault c u)) ∨
    ∃ i, ∃ u : State, u.fault = none ∧ ∀ m, cycleCommand m s = exec i { u with mode := m } := by
  obtain ⟨hf, hb⟩ := h
  cases hx : fetch s with
  | error cu => exact .inl ⟨cu.1, cu.2, fun m => by simp [cycleCommand, hf, hb, hx]⟩
  | ok ou =>
    obtain ⟨o, operands, u⟩ := ou
    have hu : u.fault = none := by
      obtain ⟨-, a, rfl⟩ := fetch_ok hx
      exact hf
    exact .inr ⟨decodeOpcode o operands, u, hu, fun m => by simp [cycleCommand, hf, hb, hx]⟩

/-- An instruction takes the fault `Unimplemented`, or Hand mode puts an operation in flight and Run mode takes the steps that lead from there to
its end, at most three. -/
theorem exec_bothModes (i : Instr) :
    (∃ c, ∀ s, exec i s = .next (raiseFault c s)) ∨
    ∀ s : State, ∃ u n t, exec i { s with mode := .hand } = .next u ∧ u.fault = s.fault ∧ n ≤ 3 ∧ StepsTo n u t ∧
      exec i { s with mode := .run } = .next (reportRun n { t with mode := .run }) := by
  rcases exec_cases i with ⟨o, operands, rfl⟩ | ⟨op, extra, hop, hi⟩
  · exact .inl ⟨.unimplemented o, fun _ => rfl⟩
  · refine .inr fun s => ?_
    obtain ⟨h3, hbound⟩ := stepsLeft_startInFlight (operandBytes i) hop
    obtain ⟨n, t, hn, ht⟩ := exists_stepsTo (s := withSeq (some (startInFlight op (operandBytes i) extra))
      (some (.decoded s.view)) { s with mode := .hand }) rfl rfl (le_refl _)
    have hrun := (ht.recast s.result .run).runSteps (k := 0) (hn.trans hbound)
    rw [Nat.zero_add] at hrun
    exact ⟨_, n, t, (hi _).trans (issue_hand rfl), rfl, hn.trans h3, ht, (hi _).trans (congrArg Host.Outcome.next hrun)⟩

/-- Settles O19: the steps that the run takes end in completion or in a fault. -/
theorem runEndsWithinThreeSteps : Obligations.RunEndsWithinThreeSteps := by
  intro i s hm
  rcases exec_bothModes i with ⟨c, hi⟩ | hi
  · exact ⟨_, hi s, .inr ⟨c, rfl, rfl, rfl⟩⟩
  · obtain ⟨u, n, t, -, hu, hn, ht, hrun⟩ := hi s
    have hs : { s with mode := .run } = s := by rw [← hm]
    rw [hs] at hrun
    rcases ht.outcome with ⟨hr, hb, hf⟩ | ⟨c, hr, hf, hidle⟩
    · exact ⟨_, hrun.trans (congrArg Host.Outcome.next (reportRun_of_done n hr)),
        .inl ⟨n, ht.pos, hn, rfl, hb, hf.trans hu⟩⟩
    · exact ⟨_, hrun.trans (congrArg Host.Outcome.next (reportRun_of_fault n hr)), .inr ⟨c, hr, hf, hidle⟩⟩

/-- Settles O17: both modes fetch and decode alike, and the steps that STEP takes from the state of Hand mode are those of the run, since no step
looks at the mode. -/
theorem runIsHandThenSteps : Obligations.RunIsHandThenSteps := by
  intro s t r hs hhand hrun
  rcases cycleCommand_of_accepts hs with ⟨c, u, hc⟩ | ⟨i, u, hu, hc⟩ <;> rw [hc] at hhand hrun
  · cases hhand
    cases hrun
    exact ⟨fun _ => rfl, fun h => nomatch h⟩
  · rcases exec_bothModes i with ⟨c, hi⟩ | hi
    · rw [hi] at hhand hrun
      cases hhand
      cases hrun
      exact ⟨fun _ => rfl, fun h => nomatch h⟩
    · obtain ⟨_, n, v, htHand, hf, hn, hv, htRun⟩ := hi u
      cases htHand.symm.trans hhand
      cases htRun.symm.trans hrun
      have hfault : t.fault = none := hf.trans hu
      obtain ⟨hend, hbefore⟩ := hv.stepTimes hfault
      refine ⟨fun hne => absurd hfault hne, fun _ => ⟨n, hv.pos, hn, hbefore, ?_⟩⟩
      rw [hend]
      rcases hv.outcome with ⟨hr, -⟩ | ⟨c, hr, -⟩
      · exact .inl ⟨hr, reportRun_of_done _ hr⟩
      · exact .inr ⟨c, hr, reportRun_of_fault _ hr⟩

end Sys2Proof.Machine
end

section
/-! The fetch (40_sequencer.md R86), the CYCLE that runs what the fetched bytes decode to (R88), and what the host sees (60_exceptions.md R163,
R164, R181). -/

namespace Sys2Proof.Machine

/-! ### The bytes of the instruction stream -/

theorem fetchByte_inRange {s : State} (h : s.pc.toNat < s.memSize) :
    fetchByte s = .ok (s.mem.read s.pc.toNat, { s with pc := s.pc + 1 }) := by
  simp [fetchByte, memRead_inRange h]

theorem fetchByte_outOfRange {s : State} (h : s.memSize ≤ s.pc.toNat) : fetchByte s = .error (.outOfRange s.pc, s) := by
  simp [fetchByte, memRead_outOfRange h]

/-- The address after the next byte, counted from PC and from PC past that byte. -/
theorem add_ofNat_succ (a : Word) (k : Nat) : a + BitVec.ofNat 16 (k + 1) = a + 1 + BitVec.ofNat 16 k := by
  rw [Nat.add_comm, BitVec.ofNat_add, BitVec.add_assoc]
  rfl

/-- The `n` bytes of the storage from an address up, modulo 2^16. -/
def bytesFrom (m : Memory) (a : Word) : Nat → List Byte
  | 0 => []
  | n + 1 => m.read a.toNat :: bytesFrom m (a + 1) n

theorem fetchOperands_inRange {n : Nat} {s : State} (h : ∀ k < n, (s.pc + BitVec.ofNat 16 k).toNat < s.memSize) :
    fetchOperands n s = .ok (bytesFrom s.mem s.pc n, { s with pc := s.pc + BitVec.ofNat 16 n }) := by
  induction n generalizing s with
  | zero => simp [fetchOperands, bytesFrom]
  | succ n ih =>
    have hpc : s.pc.toNat < s.memSize := by simpa using h 0 (by omega)
    have hrest := ih (s := { s with pc := s.pc + 1 }) fun k hk => by
      rw [← add_ofNat_succ]
      exact h (k + 1) (by omega)
    simp only [fetchOperands, fetchByte_inRange hpc, hrest, bytesFrom, add_ofNat_succ]

/-- The first operand byte outside the storage ends the fetch, PC past the bytes read. -/
theorem fetchOperands_outOfRange {j n : Nat} {s : State} (hj : j < n)
    (h : ∀ k < j, (s.pc + BitVec.ofNat 16 k).toNat < s.memSize) (ho : s.memSize ≤ (s.pc + BitVec.ofNat 16 j).toNat) :
    fetchOperands n s = .error (.outOfRange (s.pc + BitVec.ofNat 16 j), { s with pc := s.pc + BitVec.ofNat 16 j }) := by
  induction n generalizing s j with
  | zero => omega
  | succ n ih =>
    cases j with
    | zero =>
      have hpc : s.memSize ≤ s.pc.toNat := by simpa using ho
      simp [fetchOperands, fetchByte_outOfRange hpc]
    | succ j =>
      have hpc : s.pc.toNat < s.memSize := by simpa using h 0 (by omega)
      rw [add_ofNat_succ] at ho
      have hrest := ih (s := { s with pc := s.pc + 1 }) (Nat.lt_of_succ_lt_succ hj) (fun k hk => by
        rw [← add_ofNat_succ]
        exact h (k + 1) (Nat.succ_lt_succ hk)) ho
      simp only [fetchOperands, fetchByte_inRange hpc, hrest, add_ofNat_succ]

/-! ### The fetch -/

theorem fetchInRange_iff {s : State} {n : Nat} :
    fetchInRange s n ↔ ∀ k < n + 1, (s.pc + BitVec.ofNat 16 k).toNat < s.memSize := by
  induction n with
  | zero => simp [fetchInRange, Nat.mod_eq_of_lt s.pc.isLt]
  | succ n ih => rw [Nat.forall_lt_succ_right, ← ih, fetchInRange]

theorem fetchInRange_host {s : State} {n : Nat} (l : List HostMove) :
    fetchInRange { s with host := l } n ↔ fetchInRange s n := by
  rw [fetchInRange_iff, fetchInRange_iff]

/-- R69 gives no opcode more than two operand bytes. -/
theorem argumentCount_le_two : ∀ o : Byte, argumentCount o ≤ 2 := by decide

theorem bytesFrom_eq_take {n : Nat} (s : State) (h : n ≤ 2) :
    bytesFrom s.mem (s.pc + 1) n = (bytesAtPc s).tail.take n := by
  interval_cases n <;> simp [bytesFrom, bytesAtPc]

/-- The state that the fetch of an opcode leaves (R86): PC past its operand bytes, and the view written. -/
def fetched (o : Byte) (s : State) : State :=
  { s with pc := s.pc + 1 + BitVec.ofNat 16 (argumentCount o)
           view := some ⟨o, argumentCount o, (bytesAtPc s).tail.take (argumentCount o)⟩ }

section
variable {s : State}

/-- The opcode byte is inside the storage, and so are the operand bytes, counted from PC past the opcode. -/
theorem inRange_of_fetchInRange {n : Nat} (h : fetchInRange s n) :
    s.pc.toNat < s.memSize ∧ ∀ k < n, (s.pc + 1 + BitVec.ofNat 16 k).toNat < s.memSize := by
  rw [fetchInRange_iff] at h
  refine ⟨by simpa using h 0 (Nat.succ_pos n), fun k hk => ?_⟩
  rw [← add_ofNat_succ]
  exact h (k + 1) (Nat.succ_lt_succ hk)

theorem fetch_inRange {o : Byte} (ho : o = s.mem.read s.pc.toNat) (h : fetchInRange s (argumentCount o)) :
    fetch s = .ok (o, (bytesAtPc s).tail.take (argumentCount o), fetched o s) := by
  obtain ⟨hpc, hops⟩ := inRange_of_fetchInRange h
  have hrest := fetchOperands_inRange (s := { s with pc := s.pc + 1 }) hops
  simp only [fetch, fetchByte_inRange hpc, ← ho, hrest, bytesFrom_eq_take s (argumentCount_le_two o), fetched]

theorem fetch_opcode_outOfRange (h : s.memSize ≤ s.pc.toNat) : fetch s = .error (.outOfRange s.pc, s) := by
  simp only [fetch, fetchByte_outOfRange h]

theorem fetch_operand_outOfRange {o : Byte} {j : Nat} (ho : o = s.mem.read s.pc.toNat) (hj : j < argumentCount o)
    (h : fetchInRange s j) (hout : s.memSize ≤ (s.pc + 1 + BitVec.ofNat 16 j).toNat) :
    fetch s = .error (.outOfRange (s.pc + 1 + BitVec.ofNat 16 j), { s with pc := s.pc + 1 + BitVec.ofNat 16 j }) := by
  obtain ⟨hpc, hops⟩ := inRange_of_fetchInRange h
  have hrest := fetchOperands_outOfRange (s := { s with pc := s.pc + 1 }) hj hops hout
  simp only [fetch, fetchByte_inRange hpc, ← ho, hrest]

/-- An accepted CYCLE with its instruction inside the storage runs what the fetched bytes decode to (R88). -/
theorem cycleCommand_inRange {o : Byte} (m : CycleMode) (hs : s.accepts) (ho : o = s.mem.read s.pc.toNat)
    (h : fetchInRange s (argumentCount o)) :
    cycleCommand m s =
      exec (decodeOpcode o ((bytesAtPc s).tail.take (argumentCount o))) { fetched o s with mode := m } := by
  obtain ⟨hf, hb⟩ := hs
  simp [cycleCommand, hf, hb, fetch_inRange ho h]

end

/-- Settles O13: the fetch reads the opcode and then its operand bytes one by one, each by a read at PC. -/
theorem fetchReadsOpcodeAndOperands : Obligations.FetchReadsOpcodeAndOperands := by
  intro s o ho
  have h0 : s.pc + 1 + BitVec.ofNat 16 0 = s.pc + 1 := BitVec.add_zero _
  have h1 : s.pc + 1 + BitVec.ofNat 16 1 = s.pc + 2 := BitVec.add_assoc s.pc 1 1
  refine ⟨fetch_inRange ho, fetch_opcode_outOfRange, fun h hn hout => ?_, fun h hn hout => ?_,
    fun hs h m => cycleCommand_inRange m hs ho h⟩
  · rw [← h0] at hout ⊢
    exact fetch_operand_outOfRange ho hn h hout
  · rw [← h1] at hout ⊢
    exact fetch_operand_outOfRange ho (by omega) h hout

/-! ### The step that runs a decoded instruction -/

theorem step_cycle {s : State} {m : CycleMode} {rest : List HostMove} (h : nextMove s = (.cycle m, rest)) :
    step s = cycleCommand m { s with host := rest } := by
  simp [step, h, perform]

/-- The bytes at PC that decode to an instruction are its opcode and its operand bytes. -/
theorem decode_bytesAtPc {s : State} {i : Instr} {tail : List Byte} (h : decode (bytesAtPc s) = .ok (i, tail)) :
    opcode i = s.mem.read s.pc.toNat ∧
    operandBytes i = (bytesAtPc s).tail.take (argumentCount (opcode i)) ∧
    decodeOpcode (opcode i) (operandBytes i) = i := by
  obtain ⟨o, operands, hl, hi, hb⟩ := decode_eq_ok_iff.mp h
  have hop : opcode i = o := hi ▸ opcode_decodeOpcode o operands
  have hops : operandBytes i = operands := hi ▸ operandBytes_decodeOpcode hl
  rw [hop, hops]
  refine ⟨(List.cons.inj hb).1.symm, ?_, hi⟩
  rw [hb, ← hl]
  simp

/-- Settles O14: the step performs CYCLE, whose fetch reads the bytes that decode to the instruction. -/
theorem stepRunsDecodedInstruction : Obligations.StepRunsDecodedInstruction := by
  intro s m rest i tail hs hm hd hr
  obtain ⟨ho, hops, hi⟩ := decode_bytesAtPc (s := { s with host := rest }) hd
  have hr' := (fetchInRange_host rest).mpr hr
  rw [step_cycle hm, cycleCommand_inRange (s := { s with host := rest }) m hs ho hr', fetched, ← hops, hi]

/-! ### STEP -/

/-- Settles O15: the cases of a step of the in-flight instruction, on a core without a fault. -/
theorem stepCommandCases : Obligations.StepCommandCases := by
  refine fun s => ⟨fun hf => ?_, fun hf hb => ?_, fun f hf hi hd => ?_⟩
  · exact if_pos (Option.isSome_iff_ne_none.mpr hf)
  · rw [stepCommand_eq hf, microStep_idle hb]
  · rw [stepCommand_eq hf]
    exact ⟨fun n he => microStep_extra hi hd he, fun t g he ho => microStep_own hi hd he ho,
      fun c he ho => microStep_fault hi hd he ho⟩

/-- Settles O16: an extra step writes the in-flight record and the result, and what it writes there depends on the record alone. -/
theorem extraStepReadsAndWritesNothing : Obligations.ExtraStepReadsAndWritesNothing := by
  intro s f n hf hi hd he
  have hextra (u : State) (hu : u.fault = none) (hui : u.inflight = some f) :
      stepCommand u = withSeq (some { f with extraLeft := n }) (some (.stepped false)) u := by
    rw [stepCommand_eq hu, microStep_extra hui hd he]
  rw [hextra s hf hi]
  refine ⟨?_, ⟨fun _ _ => rfl, rfl⟩, fun _ => rfl, rfl, rfl, fun u hu hui => hextra u hu hui⟩
  intro r _
  cases r <;> rfl

/-! ### What the host sees -/

/-- Settles O27: the port shows the fields of the state, and SP as the join of its two bytes. -/
theorem hostSeesPortAndCodes : Obligations.HostSeesPortAndCodes :=
  ⟨fun s => ⟨joinBytes_toNat s.sph s.spl, rfl, rfl, rfl⟩, fun _ => ⟨rfl, rfl⟩, fun _ => ⟨rfl, rfl⟩, fun _ => rfl,
    fun _ => rfl, rfl, rfl, rfl, rfl, rfl⟩

end Sys2Proof.Machine
end

section
/-! The 8-bit ALU (41_alu8.md R94 to R130): its instructions, each of one own step, with their results, flags and frames; and which
instructions write the storage. -/

namespace Sys2Proof.Machine

open Sys2Proof.Forms

/-- Settles O35: an instruction that is not listed issues an operation whose kind writes no byte. -/
theorem onlyStoresWriteMemory : Obligations.OnlyStoresWriteMemory := fun _ _ _ h => (exec_writesOnly h).mem

/-! ### Operands by their slots (30_encoding.md R63, R68) -/

/-- The operand that stands in a slot. -/
def Slot.operand : Slot → Operand
  | .b => .reg .b
  | .c => .reg .c
  | .d => .reg .d
  | .e => .reg .e
  | .h => .reg .h
  | .l => .reg .l
  | .mhl => .at .hl
  | .a => .reg .a

/-- The operand of a source whose access changes no pair. -/
def Src.operand : Src → Option Operand
  | .loc (.slot sl) => some sl.operand
  | .loc (.ind _ _) => none
  | .imm d8 => some (.imm d8)

theorem Slot.operand_ne_f {sl : Slot} {r : Reg} (h : sl.operand = .reg r) : r ≠ .f := by
  rintro rfl
  cases sl <;> cases h

theorem Slot.ne_mhl_of_operand {sl : Slot} {r : Reg} (h : sl.operand = .reg r) : (sl == .mhl) = false := by
  cases sl
  case mhl => cases h
  all_goals rfl

theorem readSlot_operand {sl : Slot} {s : State} (hin : sl.operand.inRange s) : readSlot sl s = .ok (sl.operand.value s) := by
  cases sl
  case mhl => exact memRead_inRange hin
  all_goals rfl

theorem readSlot_register {sl : Slot} {r : Reg} (h : sl.operand = .reg r) (s : State) :
    readSlot sl s = .ok (regValue r s) := by
  have hread := readSlot_operand (sl := sl) (s := s)
  rw [h] at hread
  exact hread trivial

theorem readSrc_operand {x : Src} {o : Operand} {s : State} (h : x.operand = some o) (hin : o.inRange s) :
    readSrc x s = .ok (o.value s, s) := by
  rcases x with (sl | ⟨p, post⟩) | d8
  · cases h
    simp only [readSrc, readLoc, readSlot_operand hin]
  · cases h
  · cases h
    rfl

theorem Src.addressPair_of_operand {x : Src} {p : Pair} (h : x.operand = some (.at p)) : x.addressPair = some p := by
  rcases x with (sl | ⟨q, post⟩) | d8
  · cases sl <;> cases h
    rfl
  · cases h
  · cases h

/-- A write of a slot that is a register sets that register alone. -/
theorem writeSlot_register {sl : Slot} {r : Reg} (h : sl.operand = .reg r) (v : Byte) (s : State) :
    ∃ u, writeSlot sl v s = .ok u ∧ regValue r u = v ∧ KeepsRegsBut [r] s u := by
  cases sl <;> cases h
  all_goals
    refine ⟨_, rfl, rfl, fun q hq => ?_⟩
    cases q <;> first
      | rfl
      | exact absurd hq (by decide)

/-! ### Frames of the flag writes and of completion -/

theorem regValue_withSeq (r : Reg) (x : Option InFlight) (q : Option Result) (s : State) :
    regValue r (withSeq x q s) = regValue r s := by
  cases r <;> rfl

theorem keepsRegsBut_withSeq {rs : List Reg} {s t : State} (h : KeepsRegsBut rs s t) (x : Option InFlight)
    (q : Option Result) : KeepsRegsBut rs s (withSeq x q t) :=
  fun r hr => (regValue_withSeq r x q t).trans (h r hr)

theorem keepsRegsBut_setZNH (fl : FlagsZNH) (s : State) : KeepsRegsBut [.f] s (setZNH fl s) :=
  ((keepsRegsBut_setFlag .z _ s).trans (keepsRegsBut_setFlag .n _ _)).trans (keepsRegsBut_setFlag .h _ _)

theorem keepsRegsBut_setZNHC (fl : FlagsZNHC) (s : State) : KeepsRegsBut [.f] s (setZNHC fl s) :=
  (keepsRegsBut_setZNH ⟨fl.z, fl.n, fl.h⟩ s).trans (keepsRegsBut_setFlag .c _ _)

/-- A state in which the instruction's last own step has left the control state, with the record and the result of its completion. -/
theorem SameControl.completedIn {s u : State} {g : InFlight} (h : SameControl s u) (hg : g.done = true) (n : Nat) :
    CompletedIn n s (withSeq (some g) (some (.completed n)) u) :=
  ⟨rfl, ⟨g, rfl, hg⟩, h.fault, h.view, h.memSize, h.mode, h.host⟩

/-! ### ALU on A (41_alu8.md R94) -/

/-- The forms of an ALU kind (R103 to R126): instruction, right operand, steps. -/
def aluForms : AluKind → Byte → List (Instr × Operand × Nat)
  | .add => addForms
  | .adc => adcForms
  | .sub => subForms
  | .sbc => sbcForms
  | .and => andForms
  | .xor => xorForms
  | .or => orForms
  | .cp => cpForms

/-- Each form issues the ALU operation of its kind on its operand, with one step less than it takes as extra steps. -/
theorem exec_aluForms (kind : AluKind) (d8 : Byte) : ∀ e ∈ aluForms kind d8, ∃ x imm extra,
    x.operand = some e.2.1 ∧ e.2.2 = extra + 1 ∧ ∀ s, exec e.1 s = issue (.alu kind x) imm extra s := by
  intro e he
  cases kind
  all_goals fin_cases he <;> exact ⟨_, _, _, rfl, rfl, fun _ => rfl⟩

/-- A and the four flags written. -/
def writeAF (w : Byte) (fl : FlagsZNHC) (s : State) : State := setZNHC fl { s with a := w }

theorem sameControl_writeAF (w : Byte) (fl : FlagsZNHC) (s : State) : SameControl s (writeAF w fl s) :=
  ⟨rfl, rfl, rfl, rfl, rfl, rfl, rfl⟩

theorem keepsRegsBut_writeAF (w : Byte) (fl : FlagsZNHC) (s : State) : KeepsRegsBut [.a, .f] s (writeAF w fl s) := by
  refine KeepsRegsBut.trans (t := { s with a := w }) (fun r hr => ?_)
    ((keepsRegsBut_setZNHC fl _).mono (List.subset_cons_self _ _))
  cases r
  case a => simp at hr
  all_goals rfl

theorem keepsFlagsBut_writeAF (w : Byte) (fl : FlagsZNHC) (s : State) :
    KeepsFlagsBut [.z, .n, .h, .c] s (writeAF w fl s) :=
  ⟨fun g hg => absurd (by cases g <;> decide) hg, setZNHC_lowBits fl _⟩

theorem flagsAre_writeAF (w : Byte) (fl : FlagsZNHC) (s : State) : FlagsAre fl.z fl.n fl.h fl.c (writeAF w fl s) := by
  refine ⟨?_, ?_, ?_, ?_⟩ <;> simp [writeAF]

/-- The own step of an ALU operation, whose kind CP keeps A. -/
theorem ownStep_alu {kind : AluKind} {x : Src} {v r : Byte} {fl : FlagsZNHC} {f : InFlight} {s : State}
    (ho : f.op = .alu kind x) (hread : readSrc x s = .ok (v, s))
    (hr : aluResult kind s.a v (getFlag .c s) = (r, fl)) :
    ownStep f s = .ok (writeAF (if kind = .cp then s.a else r) fl s, finish f) := by
  simp only [ownStep, ho, stepAlu, hread, hr, writeAF]
  split <;> rfl

/-- A form of an ALU kind whose operand is inside the storage, from the kind's result and flags. -/
theorem exec_aluForms_run {kind : AluKind} {d8 : Byte} {e : Instr × Operand × Nat} (he : e ∈ aluForms kind d8)
    {s : State} (hm : s.mode = .run) (hin : e.2.1.inRange s) {r : Byte} {fl : FlagsZNHC}
    (hr : aluResult kind s.a (e.2.1.value s) (getFlag .c s) = (r, fl)) :
    ∃ t, exec e.1 s = .next t ∧ t.a = (if kind = .cp then s.a else r) ∧ FlagsAre fl.z fl.n fl.h fl.c t ∧
      AluFrame e.2.2 s t := by
  obtain ⟨x, imm, extra, hx, hsteps, hi⟩ := exec_aluForms kind d8 e he
  have hstep := ownStep_alu (f := startInFlight (.alu kind x) imm 0) rfl (readSrc_operand hx hin) hr
  rw [hi, hsteps, issue_run_one hm hstep rfl]
  exact ⟨_, rfl, rfl, flagsAre_writeAF _ fl s, keepsRegsBut_withSeq (keepsRegsBut_writeAF _ fl s) _ _,
    keepsFlagsBut_writeAF _ fl s, (sameControl_writeAF _ fl s).completedIn rfl _, rfl, fun _ => rfl⟩

/-- A form of an ALU kind whose byte at HL is outside the storage faults and changes nothing else (60_exceptions.md R166). -/
theorem exec_aluForms_outside {kind : AluKind} {d8 : Byte} {e : Instr × Operand × Nat} (he : e ∈ aluForms kind d8)
    {s : State} {p : Pair} (hm : s.mode = .run) (hp : e.2.1 = .at p) (hout : s.memSize ≤ (readPair p s).toNat) :
    exec e.1 s = .next (raiseFault (.outOfRange (readPair p s)) s) := by
  obtain ⟨x, imm, extra, hx, -, hi⟩ := exec_aluForms kind d8 e he
  have hpair : x.addressPair = some p := Src.addressPair_of_operand (hp ▸ hx)
  rw [hi, issue_run_fault hm (ownStep_outside (f := startInFlight (.alu kind x) imm 0) hpair hout)]

/-! ### The ALU kinds without a carry in (R95, R97) -/

theorem add8_false (a v : Byte) : add8 a v false =
    (a + v, ⟨a + v == 0, false, decide (15 < a.toNat % 16 + v.toNat % 16), decide (255 < a.toNat + v.toNat)⟩) := by
  simp [add8_eq]

/-- The difference is zero exactly on equal operands. -/
theorem sub8_false (a v : Byte) : sub8 a v false =
    (a - v, ⟨a == v, true, decide (a.toNat % 16 < v.toNat % 16), decide (a.toNat < v.toNat)⟩) := by
  have hz : (a - v == 0) = (a == v) := by rw [Bool.eq_iff_iff, beq_iff_eq, beq_iff_eq, sub_eq_zero]
  simp [sub8_eq, ← hz]

/-- Settles O44: the encodings by the decoder, an access inside the storage by the closed form of `Add8`, one outside by its fault. -/
theorem addAccumulator : Obligations.AddAccumulator := fun _ =>
  ⟨⟨rfl, rfl⟩, fun _ he _ hm =>
    ⟨fun hin => exec_aluForms_run (kind := .add) he hm hin (add8_false _ _),
      fun hp hout => exec_aluForms_outside (kind := .add) he hm hp hout⟩⟩

/-- Settles O45: by the closed form of `Add8` with the carry flag. -/
theorem addWithCarryAccumulator : Obligations.AddWithCarryAccumulator := fun _ _ he _ hm hin =>
  exec_aluForms_run (kind := .adc) he hm hin (add8_eq _ _ _)

/-- Settles O46: by the closed form of `Sub8` without a carry. -/
theorem subtractAccumulator : Obligations.SubtractAccumulator := fun _ _ he _ hm hin =>
  exec_aluForms_run (kind := .sub) he hm hin (sub8_false _ _)

/-- Settles O47: by the closed form of `Sub8` with the carry flag. -/
theorem subtractWithCarryAccumulator : Obligations.SubtractWithCarryAccumulator := fun _ _ he _ hm hin =>
  exec_aluForms_run (kind := .sbc) he hm hin (sub8_eq _ _ _)

/-- Settles O48: the result and flags are those `And8` is defined by. -/
theorem andAccumulator : Obligations.AndAccumulator := fun _ _ he _ hm hin =>
  exec_aluForms_run (kind := .and) he hm hin rfl

/-- Settles O49: the results and flags are those `Xor8` and `Or8` are defined by. -/
theorem xorOrAccumulator : Obligations.XorOrAccumulator := fun _ _ hm =>
  ⟨fun _ he hin => exec_aluForms_run (kind := .xor) he hm hin rfl,
    fun _ he hin => exec_aluForms_run (kind := .or) he hm hin rfl⟩

/-- Settles O50: the flags are those of `Sub8`, and the own step of CP writes back the A it read. -/
theorem compareAccumulator : Obligations.CompareAccumulator := fun _ _ he _ hm hin =>
  exec_aluForms_run (kind := .cp) he hm hin (sub8_false _ _)

/-! ### INC and DEC (R101, R102, R127 to R130) -/

/-- The operation's own step replaces the byte of the slot by what `upd` makes of it and writes Z, N and H. -/
def UpdatesSlot (op : Op) (sl : Slot) (upd : Byte → Byte × FlagsZNH) : Prop :=
  ∀ {f : InFlight} {s u : State} {v w : Byte} {fl : FlagsZNH}, f.op = op → readSlot sl s = .ok v → upd v = (w, fl) →
    writeSlot sl w s = .ok u → ownStep f s = .ok (setZNH fl u, finish f)

theorem updatesSlot_increase (sl : Slot) : UpdatesSlot (.increase sl) sl inc8 := by
  intro f s u v w fl ho hread hupd hwrite
  simp only [ownStep, ho, stepIncrease, hread, hupd, hwrite]

theorem updatesSlot_decrease (sl : Slot) : UpdatesSlot (.decrease sl) sl dec8 := by
  intro f s u v w fl ho hread hupd hwrite
  simp only [ownStep, ho, stepDecrease, hread, hupd, hwrite]

/-- After a write of a slot, which leaves F, and of Z, N and H, the flag C and the low bits of F are those before. -/
theorem keepsFlagsBut_setZNH {s u : State} (fl : FlagsZNH) (h : u.f = s.f) : KeepsFlagsBut [.z, .n, .h] s (setZNH fl u) := by
  refine ⟨fun g hg => ?_, by rw [setZNH_lowBits, h]⟩
  cases g
  case c => rw [getFlag_setZNH, getFlag_congr h]
  all_goals simp at hg

theorem flagsAre_setZNH {s u : State} (fl : FlagsZNH) (h : u.f = s.f) :
    FlagsAre fl.z fl.n fl.h (getFlag .c s) (setZNH fl u) := by
  refine ⟨?_, ?_, ?_, ?_⟩ <;> simp [getFlag_congr h]

theorem exec_incReg : ∀ e ∈ incReg, ∃ sl, sl.operand = .reg e.2 ∧ ∀ s, exec e.1 s = issue (.increase sl) [] 0 s := by
  intro e he
  fin_cases he <;> exact ⟨_, rfl, fun _ => rfl⟩

theorem exec_decReg : ∀ e ∈ decReg, ∃ sl, sl.operand = .reg e.2 ∧ ∀ s, exec e.1 s = issue (.decrease sl) [] 0 s := by
  intro e he
  fin_cases he <;> exact ⟨_, rfl, fun _ => rfl⟩

section
variable {op : Op} {upd : Byte → Byte × FlagsZNH} {s : State} {w : Byte} {fl : FlagsZNH} (hm : s.mode = .run)
include hm

/-- An update of a register changes that register and F alone, in one step. -/
theorem issue_updates_register {sl : Slot} {r : Reg} (hop : UpdatesSlot op sl upd) (hr : sl.operand = .reg r)
    (hupd : upd (regValue r s) = (w, fl)) :
    ∃ t, issue op [] 0 s = .next t ∧ regValue r t = w ∧ FlagsAre fl.z fl.n fl.h (getFlag .c s) t ∧
      KeepsRegsBut [r, .f] s t ∧ KeepsFlagsBut [.z, .n, .h] s t ∧ CompletedNoStore 1 s t := by
  obtain ⟨u, hwrite, hval, hkeep⟩ := writeSlot_register hr w s
  obtain ⟨hcontrol, hf, hpc, -⟩ := writeSlot_spec hwrite
  have hmem : u.mem = s.mem := writeSlot_keepsMem hwrite (Slot.ne_mhl_of_operand hr)
  have hstep := hop (f := startInFlight op [] 0) rfl (readSlot_register hr s) hupd hwrite
  have hregs : KeepsRegsBut [r, .f] s (setZNH fl u) :=
    (hkeep.mono (by simp)).trans ((keepsRegsBut_setZNH fl u).mono (by simp))
  have hset : regValue r (setZNH fl u) = w :=
    (keepsRegsBut_setZNH fl u r (by simpa using Slot.operand_ne_f hr)).trans hval
  exact ⟨_, issue_run_one hm hstep rfl, (regValue_withSeq r _ _ _).trans hset, flagsAre_setZNH fl hf, keepsRegsBut_withSeq hregs _ _,
    keepsFlagsBut_setZNH fl hf, (hcontrol.trans (sameControl_setZNH fl u)).completedIn rfl 1, hpc,
    fun a => congrArg (Memory.read · a) hmem⟩

/-- An update of the byte at HL changes that byte and F alone, in three steps with two extra ones. -/
theorem issue_updates_atHL (hop : UpdatesSlot op .mhl upd) (hs : MemInv s) (hin : (readPair .hl s).toNat < s.memSize)
    (hupd : upd (s.mem.read (readPair .hl s).toNat) = (w, fl)) :
    ∃ t, issue op [] 2 s = .next t ∧ t.mem.read (readPair .hl s).toNat = w ∧
      FlagsAre fl.z fl.n fl.h (getFlag .c s) t ∧ KeepsMemoryBut (readPair .hl s).toNat s t ∧ KeepsRegsBut [.f] s t ∧
      KeepsFlagsBut [.z, .n, .h] s t ∧ t.pc = s.pc ∧ CompletedIn 3 s t := by
  have hwrite : writeSlot .mhl w s = .ok { s with mem := s.mem.write (readPair .hl s).toNat w } := memWrite_inRange hin
  obtain ⟨hcontrol, -⟩ := writeSlot_spec hwrite
  have hregs : KeepsRegsBut [.f] s { s with mem := s.mem.write (readPair .hl s).toNat w } :=
    keepsRegsBut_memHost _ _ s.host s
  exact ⟨_, issue_run_one hm (hop rfl (memRead_inRange hin) hupd hwrite) rfl, hs.read_write_same _ w,
    flagsAre_setZNH fl rfl, fun a ha => hs.read_write_of_ne w ha,
    keepsRegsBut_withSeq (hregs.trans (keepsRegsBut_setZNH fl _)) _ _, keepsFlagsBut_setZNH fl rfl, rfl,
    (hcontrol.trans (sameControl_setZNH fl _)).completedIn rfl 3⟩

end

/-- Settles O51: INC r updates its register by the closed form of `Inc8`. -/
theorem incrementRegister : Obligations.IncrementRegister := by
  intro e he s hm
  obtain ⟨sl, hsl, hi⟩ := exec_incReg e he
  rw [hi]
  exact issue_updates_register hm (updatesSlot_increase sl) hsl (inc8_eq _)

/-- Settles O52: DEC r updates its register by the closed form of `Dec8`. -/
theorem decrementRegister : Obligations.DecrementRegister := by
  intro e he s hm
  obtain ⟨sl, hsl, hi⟩ := exec_decReg e he
  rw [hi]
  exact issue_updates_register hm (updatesSlot_decrease sl) hsl (dec8_eq _)

/-- Settles O53: INC (HL) and DEC (HL) update the byte at HL, by the closed forms of `Inc8` and `Dec8`. -/
theorem incrementDecrementMemory : Obligations.IncrementDecrementMemory := by
  rintro s hm hs hin _ rfl
  exact ⟨issue_updates_atHL hm (updatesSlot_increase .mhl) hs hin (inc8_eq _),
    issue_updates_atHL hm (updatesSlot_decrease .mhl) hs hin (dec8_eq _)⟩

end Sys2Proof.Machine
end

section
/-! The rotates of A (42_rotate.md R132 to R134), and the operations that no instruction puts in flight: the normal rotate
(42_rotate.md R135), push and pop (45_stack.md R155). -/

namespace Sys2Proof.Machine

/-! ### The operation in flight -/

/-- The operation in flight, if there is one, is of a kind that an opcode reaches. -/
def HoldsReachable (s : State) : Prop := ∀ f, s.inflight = some f → f.op.reachable = true

/-- A step puts nothing in flight and keeps the operation that is. -/
theorem HoldsReachable.microStep {s : State} (hs : HoldsReachable s) : HoldsReachable (microStep s) := by
  intro g hg
  cases hf : s.inflight with
  | none =>
    have hidle : s.busy = false := by simp [State.busy, hf]
    rw [microStep_idle hidle] at hg
    cases hf.symm.trans hg
  | some f =>
    rw [(microStep_keepsHeld hf hg).1]
    exact hs f hf

theorem HoldsReachable.exec {i : Instr} {s t : State} (h : exec i s = .next t) : HoldsReachable t := by
  rcases exec_cases i with ⟨o, operands, rfl⟩ | ⟨op, extra, ⟨hreach, -⟩, hi⟩
  · cases h
    exact fun f hf => by cases hf
  · have hstart : HoldsReachable { s with inflight := some (startInFlight op (operandBytes i) extra) } :=
      fun f hf => by cases hf; exact hreach
    exact issue_keeps (fun _ hu => hu.microStep) (fun _ _ hu => hu) hstart (hi s ▸ h)

/-- Settles O20: an instruction issues an operation of a reachable kind or faults, and its steps keep the operation. -/
theorem noInstructionReachesPushPopNormalRotate : Obligations.NoInstructionReachesPushPopNormalRotate :=
  fun _ _ _ f h hf => .inl (HoldsReachable.exec h f hf)

/-! ### `Rotate8` as a rotation of the byte -/

/-- To the left, the doubled byte takes bit 7 in below. -/
theorem rotate8_left (v : Byte) : rotate8 .left v = (v.rotateLeft 1, v.getLsbD 7) := by
  refine Prod.ext ?_ rfl
  change BitVec.ofNat 8 (v.toNat * 2 + carryNat (v.getLsbD 7)) = v.rotateLeft 1
  rw [carryNat_eq, ← BitVec.toNat_concat, BitVec.ofNat_toNat]
  ext i hi
  rw [BitVec.getElem_setWidth, BitVec.getLsbD_concat, BitVec.getElem_rotateLeft]
  by_cases h : i = 0
  · subst h
    rfl
  · rw [if_neg h, dif_neg (by omega)]
    rfl

/-- To the right, bit 0 comes in above the seven upper bits of the byte. -/
theorem rotate8_right (v : Byte) : rotate8 .right v = (v.rotateRight 1, v.getLsbD 0) := by
  refine Prod.ext ?_ rfl
  change BitVec.ofNat 8 (v.toNat / 2 + carryNat (v.getLsbD 0) * 128) = v.rotateRight 1
  have hcons : v.toNat / 2 + (v.getLsbD 0).toNat * 128 = (BitVec.cons (v.getLsbD 0) (v.extractLsb' 1 7)).toNat := by
    rw [BitVec.toNat_cons', BitVec.extractLsb'_toNat, Nat.shiftRight_eq_div_pow, Nat.shiftLeft_eq]
    omega
  rw [carryNat_eq, hcons, BitVec.ofNat_toNat, BitVec.setWidth_eq]
  ext i hi
  rw [BitVec.getElem_cons, BitVec.getElem_rotateRight]
  by_cases h : i = 7
  · subst h
    rfl
  · rw [dif_neg h, dif_pos (by omega), BitVec.getElem_extractLsb']
    rfl

/-! ### The rotate of A -/

/-- A rotated, the bit that rotated out in C, N and H cleared. -/
def rotateA (dir : Dir) (s : State) : State :=
  setFlag .h false (setFlag .n false (setFlag .c (rotate8 dir s.a).2 { s with a := (rotate8 dir s.a).1 }))

theorem ownStep_rotateFast {dir : Dir} {f : InFlight} (ho : f.op = .rotateFast dir) (s : State) :
    ownStep f s = .ok (rotateA dir s, finish f) := by
  simp only [ownStep, ho, stepRotateFast, rotateA]

theorem flagsAre_rotateA (dir : Dir) (s : State) :
    FlagsAre (getFlag .z s) false false (rotate8 dir s.a).2 (rotateA dir s) := by
  have hz : getFlag .z { s with a := (rotate8 dir s.a).1 } = getFlag .z s := getFlag_congr (s := s) rfl .z
  refine ⟨?_, ?_, ?_, ?_⟩ <;> simp [rotateA, hz]

theorem keepsFlagsBut_rotateA (dir : Dir) (s : State) : KeepsFlagsBut [.n, .h, .c] s (rotateA dir s) := by
  refine ⟨fun g hg => ?_, by simp only [rotateA, setFlag_lowBits]⟩
  cases g
  case z => exact (flagsAre_rotateA dir s).1
  all_goals simp at hg

theorem keepsRegsBut_rotateA (dir : Dir) (s : State) : KeepsRegsBut [.a, .f] s (rotateA dir s) := by
  intro r hr
  cases r
  case a => simp at hr
  case f => simp at hr
  all_goals rfl

theorem sameControl_rotateA (dir : Dir) (s : State) : SameControl s (rotateA dir s) :=
  ⟨rfl, rfl, rfl, rfl, rfl, rfl, rfl⟩

/-- A rotate of A in Run mode, from the byte and the bit that `Rotate8` answers. -/
theorem issue_rotateFast {dir : Dir} {s : State} {w : Byte} {out : Bool} (hm : s.mode = .run)
    (hr : rotate8 dir s.a = (w, out)) :
    ∃ t, issue (.rotateFast dir) [] 0 s = .next t ∧ t.a = w ∧ FlagsAre (getFlag .z s) false false out t ∧
      KeepsRegsBut [.a, .f] s t ∧ KeepsFlagsBut [.n, .h, .c] s t ∧ CompletedNoStore 1 s t := by
  have hflags := flagsAre_rotateA dir s
  rw [hr] at hflags
  exact ⟨_, issue_run_one hm (ownStep_rotateFast rfl s) rfl, congrArg Prod.fst hr, hflags,
    keepsRegsBut_withSeq (keepsRegsBut_rotateA dir s) _ _, keepsFlagsBut_rotateA dir s,
    (sameControl_rotateA dir s).completedIn rfl 1, rfl, fun _ => rfl⟩

/-- Settles O54: both rotates are the rotate of A, by the closed forms of `Rotate8`. -/
theorem rotateAccumulator : Obligations.RotateAccumulator := fun _ hm =>
  ⟨issue_rotateFast hm (rotate8_left _), issue_rotateFast hm (rotate8_right _)⟩

end Sys2Proof.Machine
end

section
/-! The loads (43_loads.md R136 to R150): a load of one byte reads its source and then writes its destination, either of them a register
or the byte a pair points at (30_encoding.md R63, R65), and a load of a pair writes both its bytes. -/

namespace Sys2Proof.Machine

open Sys2Proof.Forms

/-! ### Accesses inside the storage (20_memory.md R48) -/

/-- The state after an access to a place: its pair modified, if it modifies one. -/
def Loc.afterAccess : Loc → State → State
  | .slot _, s => s
  | .ind p post, s => (dereference p post s).2

/-- What an access adds to the pair of its place. -/
def Loc.pairChange : Loc → Word
  | .slot _ => 0
  | .ind _ .keep => 0
  | .ind _ .postInc => 1
  | .ind _ .postDec => -1
  | .ind _ .preDec => -1

/-- The registers that an access to a place writes for its pair. -/
def Loc.pairWrites : Loc → List Reg
  | .slot _ => []
  | .ind _ .keep => []
  | .ind p .postInc => pairRegs p
  | .ind p .postDec => pairRegs p
  | .ind p .preDec => pairRegs p

theorem keepsRegsBut_afterAccess (x : Loc) (s : State) : KeepsRegsBut x.pairWrites s (x.afterAccess s) := by
  cases x with
  | slot sl => exact .refl _ s
  | ind p post =>
    cases post
    case keep => exact .refl _ s
    all_goals exact keepsRegsBut_dereference p _ s

section
variable {x : Loc} {p : Pair} {s : State} (h : x.addressPair = some p)
include h

theorem readPair_afterAccess : readPair p (x.afterAccess s) = readPair p s + x.pairChange := by
  cases x with
  | slot sl => exact (BitVec.add_zero _).symm
  | ind q post =>
    obtain ⟨-, rfl⟩ : post ≠ .preDec ∧ q = p := by simpa [Loc.addressPair] using h
    cases post
    case keep => exact (BitVec.add_zero _).symm
    case postInc => exact readPair_writePair q _ s
    all_goals exact (readPair_writePair q _ s).trans (BitVec.sub_eq_add_neg _ _)

variable (hin : (readPair p s).toNat < s.memSize)
include hin

theorem readLoc_inside : readLoc x s = .ok (s.mem.read (readPair p s).toNat, x.afterAccess s) := by
  cases x with
  | slot sl =>
    obtain ⟨rfl, rfl⟩ : sl = .mhl ∧ Pair.hl = p := by simpa [Loc.addressPair] using h
    simp only [readLoc, readSlot_operand (sl := .mhl) hin]
    rfl
  | ind q post =>
    obtain ⟨hpost, rfl⟩ : post ≠ .preDec ∧ q = p := by simpa [Loc.addressPair] using h
    obtain ⟨hcontrol, hmem, -⟩ := dereference_spec q post s
    simp only [readLoc, dereference_address, if_neg hpost, memRead_inRange (hin.trans_eq hcontrol.memSize.symm), hmem]
    rfl

theorem writeLoc_inside (v : Byte) :
    writeLoc x v s = .ok { x.afterAccess s with mem := s.mem.write (readPair p s).toNat v } := by
  cases x with
  | slot sl =>
    obtain ⟨rfl, rfl⟩ : sl = .mhl ∧ Pair.hl = p := by simpa [Loc.addressPair] using h
    exact memWrite_inRange hin
  | ind q post =>
    obtain ⟨hpost, rfl⟩ : post ≠ .preDec ∧ q = p := by simpa [Loc.addressPair] using h
    obtain ⟨hcontrol, hmem, -⟩ := dereference_spec q post s
    simp only [writeLoc, dereference_address, if_neg hpost, memWrite_inRange (hin.trans_eq hcontrol.memSize.symm), hmem]
    rfl

end

/-- A pair whose two registers a frame keeps reads as before. -/
theorem KeepsRegsBut.readPair_eq {rs : List Reg} {s t : State} {p : Pair} (h : KeepsRegsBut rs s t)
    (hp : ∀ r ∈ pairRegs p, r ∉ rs) : readPair p t = readPair p s := by
  cases p <;> exact congrArg₂ joinBytes (h _ (hp _ (.head _))) (h _ (hp _ (.tail _ (.head _))))

/-! ### The run of a load -/

section
variable {src : Src} {imm : List Byte} {extra : Nat} {s : State} (hm : s.mode = .run)
include hm

/-- A load whose two accesses do not fault completes with its one own step, in the state that they leave (R136). -/
theorem issue_load_run {dst : Loc} {v : Byte} {u w : State} (hread : readSrc src s = .ok (v, u))
    (hwrite : writeLoc dst v u = .ok w) : ∃ x q, issue (.load dst src) imm extra s = .next (withSeq x q w) ∧
      w.pc = s.pc ∧ CompletedIn (extra + 1) s (withSeq x q w) := by
  have hstep : ownStep (startInFlight (.load dst src) imm 0) s = .ok (w, finish (startInFlight (.load dst src) imm 0)) := by
    simp only [ownStep, startInFlight, stepLoad, hread, hwrite]
  obtain ⟨hcontrol, -, -, -, hpc⟩ := readSrc_spec hread
  obtain ⟨hcontrol', -, hpc', -⟩ := writeLoc_spec hwrite
  exact ⟨_, _, issue_run_one hm hstep rfl, hpc'.trans hpc, (hcontrol.trans hcontrol').completedIn rfl _⟩

/-- A load into a register writes that register alone, after what the read of its source has written. -/
theorem issue_load_register {sl : Slot} {r : Reg} {v : Byte} {u : State} (hr : sl.operand = .reg r)
    (hread : readSrc src s = .ok (v, u)) : ∃ t, issue (.load (.slot sl) src) imm extra s = .next t ∧
      regValue r t = v ∧ KeepsRegsBut [r] u t ∧ CompletedNoStore (extra + 1) s t := by
  obtain ⟨w, hwrite, hval, hkeep⟩ := writeSlot_register hr v u
  obtain ⟨x, q, hi, hpc, hdone⟩ := issue_load_run (dst := .slot sl) (imm := imm) (extra := extra) hm hread hwrite
  have hmem : w.mem = s.mem :=
    (writeSlot_keepsMem hwrite (Slot.ne_mhl_of_operand hr)).trans (readSrc_spec hread).2.1
  exact ⟨_, hi, (regValue_withSeq r x q w).trans hval, keepsRegsBut_withSeq hkeep x q, hdone, hpc,
    fun a => congrArg (Memory.read · a) hmem⟩

/-- A load into the storage writes the byte at the old pair of its destination, and the pair as the access modifies it. -/
theorem issue_load_memory {dst : Loc} {p : Pair} {v : Byte} (hs : MemInv s) (hp : dst.addressPair = some p)
    (hin : (readPair p s).toNat < s.memSize) (hread : readSrc src s = .ok (v, s)) :
    ∃ t, issue (.load dst src) imm extra s = .next t ∧ t.mem.read (readPair p s).toNat = v ∧
      KeepsMemoryBut (readPair p s).toNat s t ∧ readPair p t = readPair p s + dst.pairChange ∧
      KeepsRegsBut dst.pairWrites s t ∧ t.pc = s.pc ∧ CompletedIn (extra + 1) s t := by
  obtain ⟨x, q, hi, hpc, hdone⟩ := issue_load_run (imm := imm) (extra := extra) hm hread (writeLoc_inside hp hin v)
  have hstored (rs : List Reg) : KeepsRegsBut rs (dst.afterAccess s)
      (withSeq x q { dst.afterAccess s with mem := s.mem.write (readPair p s).toNat v }) :=
    keepsRegsBut_withSeq (keepsRegsBut_memHost rs _ _ _) x q
  exact ⟨_, hi, hs.read_write_same _ v, fun a ha => hs.read_write_of_ne v ha,
    ((hstored []).readPair_eq fun _ _ => List.not_mem_nil).trans (readPair_afterAccess hp),
    (keepsRegsBut_afterAccess dst s).trans (hstored _), hpc, hdone⟩

end

/-! ### Loads into registers (R137, R138, R140) -/

/-- The instruction issues a load of the operand into the register, with that many extra steps. -/
def LoadsRegister (extra : Nat) (o : Operand) (r : Reg) (i : Instr) : Prop :=
  ∃ sl src imm, sl.operand = .reg r ∧ src.operand = some o ∧ ∀ s, exec i s = issue (.load (.slot sl) src) imm extra s

theorem LoadsRegister.run {extra : Nat} {o : Operand} {r : Reg} {i : Instr} (h : LoadsRegister extra o r i) {s : State}
    (hm : s.mode = .run) (hin : o.inRange s) :
    ∃ t, exec i s = .next t ∧ regValue r t = o.value s ∧ KeepsRegsBut [r] s t ∧ CompletedNoStore (extra + 1) s t := by
  obtain ⟨sl, src, imm, hr, ho, hi⟩ := h
  rw [hi]
  exact issue_load_register hm hr (readSrc_operand ho hin)

theorem loadsRegister_ldRegReg : ∀ e ∈ ldRegReg, LoadsRegister 0 (.reg e.2.2) e.2.1 e.1 := by
  intro e he
  fin_cases he <;> exact ⟨_, _, _, rfl, rfl, fun _ => rfl⟩

theorem loadsRegister_ldRegHL : ∀ e ∈ ldRegHL, LoadsRegister 1 (.at .hl) e.2 e.1 := by
  intro e he
  fin_cases he <;> exact ⟨_, _, _, rfl, rfl, fun _ => rfl⟩

theorem loadsRegister_ldRegImm (d8 : Byte) : ∀ e ∈ ldRegImm d8, LoadsRegister 1 (.imm d8) e.2 e.1 := by
  intro e he
  fin_cases he <;> exact ⟨_, _, _, rfl, rfl, fun _ => rfl⟩

/-- Settles O37: the operand is a register, whose read cannot fault. -/
theorem loadRegisterFromRegister : Obligations.LoadRegisterFromRegister := fun e he _ hm =>
  (loadsRegister_ldRegReg e he).run hm trivial

/-- Settles O38: the operand is the byte at HL, which is inside the storage. -/
theorem loadRegisterFromHL : Obligations.LoadRegisterFromHL := fun e he _ hm hin =>
  (loadsRegister_ldRegHL e he).run hm hin

/-- Settles O39: the operand is the immediate byte. -/
theorem loadRegisterImmediate : Obligations.LoadRegisterImmediate := fun d8 e he _ hm =>
  (loadsRegister_ldRegImm d8 e he).run hm trivial

/-! ### Loads through a pair (R139, R141 to R149) -/

/-- Each form issues a load into the byte at HL, of an operand that is no access, with one step less than it takes as extra steps. -/
theorem exec_stHL (d8 : Byte) : ∀ e ∈ stHL d8, ∃ src imm extra, src.operand = some e.2.1 ∧ (∀ s, e.2.1.inRange s) ∧
    e.2.2 = extra + 1 ∧ ∀ s, exec e.1 s = issue (.load (.slot .mhl) src) imm extra s := by
  intro e he
  fin_cases he <;> exact ⟨_, _, _, rfl, fun _ => trivial, rfl, fun _ => rfl⟩

/-- Each form issues a load of A from a place with the form's pair, of two steps. -/
theorem exec_ldAInd : ∀ e ∈ ldAInd, ∃ x : Loc, x.addressPair = some e.2.1 ∧ e.2.2.1 = x.pairChange ∧
    e.2.2.2 = .a :: x.pairWrites ∧ ∀ s, exec e.1 s = issue (.load (.slot .a) (.loc x)) [] 1 s := by
  intro e he
  fin_cases he <;> exact ⟨_, rfl, rfl, rfl, fun _ => rfl⟩

/-- Each form issues a load of A into a place with the form's pair, of two steps. -/
theorem exec_stAInd : ∀ e ∈ stAInd, ∃ x : Loc, x.addressPair = some e.2.1 ∧ e.2.2.1 = x.pairChange ∧
    e.2.2.2 = x.pairWrites ∧ ∀ s, exec e.1 s = issue (.load x (.loc (.slot .a))) [] 1 s := by
  intro e he
  fin_cases he <;> exact ⟨_, rfl, rfl, rfl, fun _ => rfl⟩

/-- Settles O40: the destination is the byte at HL, whose access modifies no pair. -/
theorem storeToHL : Obligations.StoreToHL := by
  intro d8 e he s hm hs hin
  obtain ⟨src, imm, extra, ho, hrange, hsteps, hi⟩ := exec_stHL d8 e he
  obtain ⟨t, ht, hbyte, hmem, -, hregs, hpc, hdone⟩ :=
    issue_load_memory (dst := .slot .mhl) (imm := imm) (extra := extra) hm hs rfl hin (readSrc_operand ho (hrange s))
  rw [hi, hsteps]
  exact ⟨t, ht, hbyte, hmem, hregs, hpc, hdone⟩

/-- Settles O41: A is written after the read has modified the pair, and is in no pair. -/
theorem loadAccumulatorIndirect : Obligations.LoadAccumulatorIndirect := by
  intro e he s hm hin
  obtain ⟨x, hp, hchange, hwrites, hi⟩ := exec_ldAInd e he
  have hread : readSrc (.loc x) s = .ok (s.mem.read (readPair e.2.1 s).toNat, x.afterAccess s) := readLoc_inside hp hin
  obtain ⟨t, ht, ha, hregs, hdone⟩ := issue_load_register (sl := .a) (imm := []) (extra := 1) hm rfl hread
  have hpair : ∀ r ∈ pairRegs e.2.1, r ∉ [Reg.a] := by cases e.2.1 <;> decide
  rw [hi, hchange, hwrites]
  exact ⟨t, ht, ha, (hregs.readPair_eq hpair).trans (readPair_afterAccess hp),
    ((keepsRegsBut_afterAccess x s).mono (List.subset_cons_self _ _)).trans (hregs.mono (by simp)), hdone⟩

/-- Settles O42: A is read before the access modifies the pair. -/
theorem storeAccumulatorIndirect : Obligations.StoreAccumulatorIndirect := by
  intro e he s hm hs hin
  obtain ⟨x, hp, hchange, hwrites, hi⟩ := exec_stAInd e he
  rw [hi, hchange, hwrites]
  exact issue_load_memory hm hs hp hin rfl

/-! ### Loads of a pair (R150) -/

theorem exec_ldPairImm (d16 : Word) : ∀ e ∈ ldPairImm d16, ∃ imm, ∀ s, exec e.1 s = issue (.load16 e.2 d16) imm 2 s := by
  intro e he
  fin_cases he <;> exact ⟨_, fun _ => rfl⟩

/-- Settles O43: the operation's one own step writes the pair. -/
theorem loadPairImmediate : Obligations.LoadPairImmediate := by
  intro d16 e he s hm
  obtain ⟨imm, hi⟩ := exec_ldPairImm d16 e he
  have hcontrol : SameControl s (writePair e.2 d16 s) :=
    (sameControl_setPairHigh e.2 _ s).trans (sameControl_setPairLow e.2 _ _)
  rw [hi, issue_run_one hm rfl rfl]
  exact ⟨_, rfl, (readPair_withSeq e.2 _ _ _).trans (readPair_writePair e.2 d16 s),
    keepsRegsBut_withSeq (keepsRegsBut_writePair e.2 d16 s) _ _, hcontrol.completedIn rfl 3, writePair_pc e.2 d16 s,
    fun a => congrArg (Memory.read · a) (writePair_mem e.2 d16 s)⟩

end Sys2Proof.Machine
end

section
/-! INC rr and DEC rr run to completion (44_inc_dec16.md R151 to R154): the low byte in the first own step, the high byte in the second
if the low one wrapped. -/

namespace Sys2Proof.Machine

open Sys2Proof.Forms

/-- A pair after both own steps: its low byte written, and its high byte if the low one wrapped. -/
def updatePair (p : Pair) (wrapped : Bool) (hi lo : Byte) (s : State) : State :=
  if wrapped then setPairHigh p hi (setPairLow p lo s) else setPairLow p lo s

section
variable (p : Pair) (wrapped : Bool) (hi lo : Byte) (s : State)

theorem readPair_updatePair :
    readPair p (updatePair p wrapped hi lo s) = joinBytes (if wrapped then hi else pairHigh p s) lo := by
  cases wrapped <;> simp [updatePair]

theorem keepsRegsBut_updatePair : KeepsRegsBut (pairRegs p) s (updatePair p wrapped hi lo s) := by
  have hlow := keepsRegsBut_setPairLow p lo s
  cases wrapped
  · exact hlow
  · exact hlow.trans (keepsRegsBut_setPairHigh p hi _)

theorem sameControl_updatePair : SameControl s (updatePair p wrapped hi lo s) := by
  have hlow := sameControl_setPairLow p lo s
  cases wrapped
  · exact hlow
  · exact hlow.trans (sameControl_setPairHigh p hi _)

theorem pc_updatePair : (updatePair p wrapped hi lo s).pc = s.pc := by
  cases wrapped <;> simp [updatePair]

theorem mem_updatePair : (updatePair p wrapped hi lo s).mem = s.mem := by
  cases wrapped <;> simp [updatePair]

end

/-- An operation whose two own steps update a pair completes in two steps with the pair that the two bytes join to, and changes nothing
else. -/
theorem issue_updatePair {op : Op} {p : Pair} {wrapped : Bool} {hi lo : Byte} {v : Word} {s : State} {g k : InFlight}
    (hm : s.mode = .run) (hfirst : ownStep (startInFlight op [] 0) s = .ok (setPairLow p lo s, g)) (hg : g.done = false)
    (hsecond : ownStep { g with k := 1 } (setPairLow p lo s) = .ok (updatePair p wrapped hi lo s, k)) (hk : k.done = true)
    (hv : joinBytes (if wrapped then hi else pairHigh p s) lo = v) :
    ∃ t, issue op [] 0 s = .next t ∧ readPair p t = v ∧ KeepsRegsBut (pairRegs p) s t ∧ CompletedNoStore 2 s t :=
  ⟨_, issue_run_two hm hfirst hg hsecond hk,
    (readPair_withSeq p _ _ _).trans ((readPair_updatePair p wrapped hi lo s).trans hv),
    keepsRegsBut_withSeq (keepsRegsBut_updatePair p wrapped hi lo s) _ _,
    (sameControl_updatePair p wrapped hi lo s).completedIn (g := { k with k := 2 }) hk 2, pc_updatePair p wrapped hi lo s,
    fun a => congrArg (Memory.read · a) (mem_updatePair p wrapped hi lo s)⟩

/-- Settles O55: the second own step finds the high byte as it was, and the two bytes join to the pair plus or minus one. -/
theorem incrementDecrementPair : Obligations.IncrementDecrementPair := by
  intro s hm
  refine ⟨fun e he => ?_, fun e he => ?_⟩
  · rw [exec_incPair e he]
    refine issue_updatePair hm rfl rfl rfl rfl ?_
    rw [pairHigh_setPairLow]
    exact joinBytes_inc (pairHigh e.2 s) (pairLow e.2 s)
  · rw [exec_decPair e he]
    refine issue_updatePair hm rfl rfl rfl rfl ?_
    rw [pairHigh_setPairLow]
    exact joinBytes_dec (pairHigh e.2 s) (pairLow e.2 s)

end Sys2Proof.Machine
end

section
/-! JR e8 and JR cc,e8 run to completion (46_branch.md R158 to R161): the own steps of a jump write PC alone. -/

namespace Sys2Proof.Machine

open Sys2Proof.Forms

/-- The instruction has run to completion in `n` steps with PC at `a`; no register, flag or byte of the storage has changed. -/
structure JumpsTo (a : Word) (n : Nat) (s t : State) : Prop where
  pc : t.pc = a
  regs : KeepsRegsBut [] s t
  mem : KeepsMemory s t
  completed : CompletedIn n s t

/-- A last own step that has written PC, and nothing else, leaves a completed jump. -/
theorem jumpsTo_setPc (a : Word) (n : Nat) (s : State) {g : InFlight} (hg : g.done = true) :
    JumpsTo a n s (withSeq (some g) (some (.completed n)) { s with pc := a }) where
  pc := rfl
  regs := keepsRegsBut_withSeq (t := { s with pc := a }) (fun r _ => by cases r <;> rfl) _ _
  mem := fun _ => rfl
  completed := SameControl.completedIn (u := { s with pc := a }) ⟨rfl, rfl, rfl, rfl, rfl, rfl, rfl⟩ hg n

section
variable (cc : Cond) (e8 : Byte) (imm : List Byte) (extra : Nat) {s : State}

/-- JR's one own step writes the target (R160). -/
theorem issue_jr (hm : s.mode = .run) :
    ∃ t, issue (.jr e8) imm extra s = .next t ∧ JumpsTo (s.pc + e8.signExtend 16 - 2) (extra + 1) s t := by
  rw [← jumpTarget_eq]
  exact ⟨_, issue_run_one hm rfl rfl, jumpsTo_setPc _ _ s rfl⟩

/-- Own step 0 of JR cc latches that the condition holds, and own step 1 writes the target (R161). -/
theorem issue_jrcc_taken (hm : s.mode = .run) (hc : condHolds cc s = true) :
    ∃ t, issue (.jrcc cc e8) imm extra s = .next t ∧ JumpsTo (s.pc + e8.signExtend 16 - 2) (extra + 2) s t := by
  have hfirst : ownStep (startInFlight (.jrcc cc e8) imm 0) s =
      .ok (s, { startInFlight (.jrcc cc e8) imm 0 with taken := true }) := by
    simp [ownStep, stepJrcc, startInFlight, hc]
  rw [← jumpTarget_eq]
  exact ⟨_, issue_run_two hm hfirst rfl rfl rfl, jumpsTo_setPc _ _ s rfl⟩

/-- Own step 0 of JR cc completes the operation if the condition does not hold (R161). -/
theorem issue_jrcc_notTaken (hm : s.mode = .run) (hc : condHolds cc s = false) :
    ∃ t, issue (.jrcc cc e8) imm extra s = .next t ∧ JumpsTo s.pc (extra + 1) s t := by
  have hfirst : ownStep (startInFlight (.jrcc cc e8) imm 0) s =
      .ok (s, { startInFlight (.jrcc cc e8) imm 0 with done := true }) := by
    simp [ownStep, stepJrcc, startInFlight, hc]
  exact ⟨_, issue_run_one hm hfirst rfl, jumpsTo_setPc _ _ s rfl⟩

end

theorem exec_jr_e8 (e8 : Byte) (s : State) : exec (.jr_e8 e8) s = issue (.jr e8) [e8] 2 s := rfl

theorem exec_jrcc (e8 : Byte) : ∀ e ∈ jrcc e8, ∀ s, exec e.1 s = issue (.jrcc e.2 e8) [e8] 1 s := by
  intro e he s
  fin_cases he <;> rfl

/-- Settles O59: the jump's target is `pc_post` plus the offset minus two, and the two is the length that `pc_post` has passed. -/
theorem jumpRelative : Obligations.JumpRelative := by
  intro e8 s hm
  obtain ⟨t, ht, hj⟩ := issue_jr e8 [e8] 2 hm
  have hfromOpcode : ∀ a0 : Word, s.pc = a0 + 2 → t.pc = a0 + e8.signExtend 16 := by
    intro a0 ha
    rw [hj.pc, ha, add_right_comm, add_sub_cancel_right]
  exact ⟨t, (exec_jr_e8 e8 s).trans ht, hj.pc, hfromOpcode, hj.regs, hj.mem, hj.completed⟩

/-- Settles O60: by whether the condition holds when own step 0 runs; the extra step before it has left the flags as they were. -/
theorem jumpConditional : Obligations.JumpConditional := by
  intro e8 e he s hm
  rw [exec_jrcc e8 e he]
  cases hc : condHolds e.2 s with
  | true =>
    obtain ⟨t, ht, hj⟩ := issue_jrcc_taken e.2 e8 [e8] 1 hm hc
    exact ⟨t, ht, hj.regs, hj.mem, (if_pos hc).mpr ⟨hj.pc, hj.completed⟩⟩
  | false =>
    obtain ⟨t, ht, hj⟩ := issue_jrcc_notTaken e.2 e8 [e8] 1 hm hc
    exact ⟨t, ht, hj.regs, hj.mem, (if_neg ((Bool.not_eq_true _).mpr hc)).mpr ⟨hj.pc, hj.completed⟩⟩

end Sys2Proof.Machine
end

section
/-! Faults and refusals (60_exceptions.md R165 to R170): the unimplemented opcode, the access outside the storage, at a fetch and at a step, and
the commands that a faulted or a busy core declines. -/

namespace Sys2Proof.Machine

/-! ### The unimplemented opcode -/

/-- The whole effect of an unimplemented opcode (R165): its fetch, and the fault it raises. -/
theorem cycleCommand_unimplemented {o : Byte} {s : State} (m : CycleMode) (hs : s.accepts) (ho : o = s.mem.read s.pc.toNat)
    (hu : o ∈ unimplementedOpcodes) (hr : fetchInRange s (argumentCount o)) :
    cycleCommand m s = .next (raiseFault (.unimplemented o) { fetched o s with mode := m }) := by
  rw [cycleCommand_inRange m hs ho hr, decodeOpcode_of_mem _ hu]
  rfl

/-- Settles O21: the step is the CYCLE that fetches the opcode and its operand bytes and then raises the fault;
neither writes a register, a flag or a byte. -/
theorem unimplementedOpcodeTakesItsFault : Obligations.UnimplementedOpcodeTakesItsFault := by
  refine ⟨fun _ _ _ => rfl, fun s m rest o hs hm ho hu hr => ?_⟩
  have hcycle := cycleCommand_unimplemented (s := { s with host := rest }) m hs ho hu ((fetchInRange_host rest).mpr hr)
  exact ⟨_, (step_cycle hm).trans hcycle, rfl, rfl, rfl, rfl, rfl, fun r _ => by cases r <;> rfl, fun _ => rfl⟩

/-! ### The access outside the storage -/

/-- A fetch faults only out of range, and leaves PC at the address that it could not read, past the bytes read before (R86). -/
theorem fetch_error {s t : State} {c : FaultCause} (h : fetch s = .error (c, t)) :
    ∃ a : Word, c = .outOfRange a ∧ s.memSize ≤ a.toNat ∧ t = { s with pc := a } := by
  unfold fetch at h
  split at h
  · next hbyte =>
    cases h
    obtain ⟨hc, hout, rfl⟩ := fetchByte_error hbyte
    exact ⟨_, hc, hout, rfl⟩
  · next hbyte =>
    obtain rfl := fetchByte_ok hbyte
    split at h
    · next hops =>
      cases h
      obtain ⟨a, hc, hout, ht⟩ := fetchOperands_error hops
      exact ⟨a, hc, hout, ht⟩
    · cases h

/-- An accepted CYCLE takes the fault of its fetch (R88). -/
theorem cycleCommand_fetch_error {s t : State} {c : FaultCause} (m : CycleMode) (hs : s.accepts) (h : fetch s = .error (c, t)) :
    cycleCommand m s = .next (raiseFault c t) := by
  obtain ⟨hf, hb⟩ := hs
  simp [cycleCommand, hf, hb, h]

/-- No 16-bit address lies outside 65536 bytes (20_memory.md R43). -/
theorem not_isOutOfRange_of_memSize {s : State} (h : s.memSize = 65536) (c : FaultCause) : ¬ IsOutOfRange s c := by
  rintro ⟨a, -, ha⟩
  rw [h] at ha
  exact absurd a.isLt (Nat.not_lt.mpr ha)

/-- Settles O22: a fetch and an own step fault only on an address outside the storage, which the fault names; a storage of 65536 bytes has no
such address. -/
theorem outOfRangeAccessTakesItsFault : Obligations.OutOfRangeAccessTakesItsFault := by
  refine ⟨fun m s s1 c hs h => ?_, fun s f c hf hi hd he ho => ?_, fun s hsize => ⟨fun c s1 h => ?_, fun f c h => ?_⟩⟩
  · obtain ⟨a, rfl, hout, rfl⟩ := fetch_error h
    exact ⟨a, rfl, hout, rfl, cycleCommand_fetch_error m hs h⟩
  · obtain ⟨a, rfl, hout⟩ := ownStep_error ho
    exact ⟨a, rfl, hout, (stepCommand_eq hf).trans (microStep_fault hi hd he ho)⟩
  · obtain ⟨a, hc, hout, -⟩ := fetch_error h
    exact not_isOutOfRange_of_memSize hsize c ⟨a, hc, hout⟩
  · exact not_isOutOfRange_of_memSize hsize c (ownStep_error h)

/-! ### The refused commands -/

theorem cycleCommand_of_faulted {s : State} (m : CycleMode) (h : s.fault ≠ none) :
    cycleCommand m s = .next (decline .faulted s) :=
  if_pos (Option.isSome_iff_ne_none.mpr h)

theorem stepCommand_of_faulted {s : State} (h : s.fault ≠ none) : stepCommand s = decline .faulted s :=
  if_pos (Option.isSome_iff_ne_none.mpr h)

theorem cycleCommand_of_busy {s : State} (m : CycleMode) (hf : s.fault = none) (hb : s.busy = true) :
    cycleCommand m s = .next (decline .busy s) := by
  simp [cycleCommand, hf, hb]

/-- Settles O24: CYCLE asks for a fault first and for an incomplete instruction second, STEP for a fault alone, and `decline` writes the
result alone. -/
theorem faultedAndBusyCommandsAreDeclined : Obligations.FaultedAndBusyCommandsAreDeclined := fun _ m =>
  ⟨fun hf => ⟨cycleCommand_of_faulted m hf, stepCommand_of_faulted hf⟩, cycleCommand_of_busy m⟩

end Sys2Proof.Machine
end
